-- ==== Sys2Proof/Word.lean ====
section
/-! DEFINITION. The word types of the UWEVO 3208: bytes, 16-bit fields and 32-bit addresses and data. -/

namespace Sys2Proof

abbrev Byte := BitVec 8
abbrev Half := BitVec 16
abbrev Word := BitVec 32

end Sys2Proof
end

