-- ==== Sys2Proof/Syntax.lean ====
section
/-! DEFINITION. The commands and events of spec/opcode_table.json: one constructor per row, with the operands that
arrive from outside. -/

namespace Sys2Proof

/-- The operation of a near-port or far-port request (R73, R89). -/
inductive Op where
  | read
  | write
  deriving DecidableEq, Repr

/-- The status of a far-port answer (R90). -/
inductive MemStatus where
  | ok
  | error
  deriving DecidableEq, Repr

/-- A near-port request as presented (R73). -/
structure NpRequest where
  tag : BitVec 4
  op : Op
  /-- The width code: 0, 1, 2 for 1, 2, 4 bytes; 3 is malformed (R26). -/
  wcode : BitVec 2
  address : Word
  data : Word
  deriving DecidableEq, Repr

/-- The 28-byte payload of LOAD_ENTRY, field by field as R183 lays it out. -/
structure LoadPayload where
  index : Byte
  address : Word
  wcode : Byte
  flags : Byte
  action : Byte
  low : Word
  high : Word
  step : Word
  trip : Byte
  group : Byte
  period : Half
  fallback : Word
  deriving DecidableEq, Repr

/-- The 16-byte payload of TUNE_ENTRY, in the order of R171. -/
structure TunePayload where
  index : Byte
  action : Byte
  flags : Byte
  low : Word
  high : Word
  step : Word
  trip : Byte
  deriving DecidableEq, Repr

/-- The 8-byte payload of SET_FRESH, in the order of R171. -/
structure FreshPayload where
  index : Byte
  flags : Byte
  period : Half
  fallback : Word
  deriving DecidableEq, Repr

/-- The 4-byte payload of CONFIG_GROUP (R174): in the flags byte bit 0 is report-commit and bit 1 is enable (R182). -/
structure GroupPayload where
  group : Byte
  timeout : Half
  flags : Byte
  deriving DecidableEq, Repr

/-- The rows of the table. A management command carries its payload; an event carries what the outside world brings
with it. -/
inductive Instr where
  | acceptance (r : NpRequest)
  | send
  | issue
  | commitStart
  | commitMemberWrite
  | fallbackIssue
  | ownershipRead
  | ringRecordWrite
  | memoryAnswer (status : MemStatus) (data : Word)
  | tick
  /-- The entry whose countdown reaches 0. -/
  | deadlineExpiry (index : Nat)
  /-- The number, 1 to 8, of the group whose countdown reaches 0. -/
  | timeoutExpiry (group : Nat)
  /-- `power`: power is applied; otherwise RST_N is sampled low (R184). -/
  | deviceReset (power : Bool)
  | resetRelease
  | frameStart
  | frameNotTaken
  | nop
  | setMode (code : Byte)
  | getStatus
  | loadEntry (p : LoadPayload)
  | tuneEntry (p : TunePayload)
  | setFresh (p : FreshPayload)
  | retireEntry (index : Byte)
  | readEntry (index : Byte)
  | preloadReference (index : Byte) (value : Word)
  | forgetReference (index : Byte)
  | clearSticky (index flags : Byte)
  | releaseEntry (index : Byte)
  | configGroupEnable (p : GroupPayload)
  | configGroupDisable (p : GroupPayload)
  | readGroup (group : Byte)
  | configRing (base : Word) (slots : Half)
  | ringOff
  | ringPoll
  | setTick (length : Half)
  | readTime
  | setAlertMask (enables : Byte)
  | ackAlerts (set : Byte)
  | incomingByte (b : Byte)
  deriving DecidableEq, Repr

end Sys2Proof
end

