-- ==== Sys2Proof/Decode.lean ====
section
/-! DEFINITION. spec/opcode_table.json gives no row any bits, so no word spells a command. The frames of the
management link are read in Machine/Link.lean. -/

namespace Sys2Proof

/-- The command a word spells by the table's bits: none for every word, since no row of the table has bits. -/
def decodeTableWord (_nbits _w : Nat) : Option Instr := none

end Sys2Proof
end

