-- ==== Sys2Proof/Config.lean ====
section
/-! DEFINITION. What the part fixes once: the capacities of its tables and queues, the clock's ratio, and the last values
of its counters. -/

namespace Sys2Proof.Config

/-- Slots of the Transit Queue (R75, R84). -/
def tqSlots : Nat := 16

/-- Places of the issue log (R91). -/
def issueLogPlaces : Nat := 24

/-- Places of the pending record queue (R130). -/
def recordPlaces : Nat := 8

/-- The most payload bytes of a command frame (R163, R164). -/
def commandPayloadMax : Nat := 28

/-- CLK periods in one microsecond (R108, R186). -/
def clkPerMicrosecond : Nat := 16

/-- The last value of an 8-bit saturating counter (R7). -/
def violationMax : Nat := 255

/-- The last value of a 16-bit saturating counter (R8, R131). -/
def countMax : Nat := 65535

end Sys2Proof.Config
end

