-- ==== Sys2Proof/Machine/State.lean ====
section
/-! DEFINITION. Every piece of state the spec gives the checker, as plain data, and its value after device reset. -/

namespace Sys2Proof.Machine

/-- No behaviour the spec describes stops the checker: there is no fault to name. -/
inductive Fault where
  deriving DecidableEq, Repr

/-- Why a command has no outcome. -/
inductive Refusal where
  /-- Raised only by an arm of `exec` whose command has no meaning yet; safe. No arm raises it. -/
  | notModelled (mnemonic : String)
  deriving DecidableEq, Repr

/-! ## Named values -/

/-- An access width in bytes (R2, R73). -/
inductive Width where
  | w1
  | w2
  | w4
  deriving DecidableEq, Repr

/-- An entry's action, codes 0 to 3 in this order (R4). -/
inductive Action where
  | pass
  | clamp
  | hold
  | deny
  deriving DecidableEq, Repr

/-- The four entry states, codes 0 to 3 in this order (R13, R173). -/
inductive EntryState where
  | vacant
  | ready
  | stale
  | latched
  deriving DecidableEq, Repr

/-- The guard mode, codes 0 to 2 in this order (R150). -/
inductive Mode where
  | bypass
  | monitor
  | enforce
  deriving DecidableEq, Repr

/-- The group states, codes 0 to 2 in this order (R51, R174). -/
inductive GroupState where
  | idle
  | opened
  | commitWait
  deriving DecidableEq, Repr

/-- The ring states, codes 0 to 3 in this order (R132, R169). -/
inductive RingState where
  | off
  | running
  | suspended
  | stopped
  deriving DecidableEq, Repr

/-- The class of a request (R23), `malformed` for one that is not classified (R26). -/
inductive AddrClass where
  | exact
  | partialTo
  | straddling
  | unwatched
  | malformed
  deriving DecidableEq, Repr

/-- The status of a near-port answer (R74). -/
inductive AnswerStatus where
  | done
  | denied
  | fault
  deriving DecidableEq, Repr

/-- The status of a management response, codes 0 to 6 in this order (R166). -/
inductive Status where
  | ok
  | unknown
  | badFrame
  | badArg
  | conflict
  | state
  | busy
  deriving DecidableEq, Repr

/-- Why a round was abandoned, codes 0 to 2 in this order (R55, R181). -/
inductive AbandonCause where
  | timeout
  | mode
  | disable
  deriving DecidableEq, Repr

/-- Whose request the memory answered ERROR, codes 0 to 3 in this order (R83, R181). -/
inductive MemErrOrigin where
  | controllerRead
  | controllerWrite
  | commit
  | fallback
  deriving DecidableEq, Repr

/-! ## Records of the blocks -/

/-- One entry of the Watch Table (section 1.2). Values are whole numbers of the entry's type (R2). -/
structure Entry where
  state : EntryState
  address : Word
  width : Width
  signed : Bool
  action : Action
  mergePartial : Bool
  low : Option Int
  high : Option Int
  step : Nat
  trip : Nat
  /-- The group, held as its number minus 1 (R10). -/
  group : Option (Fin 8)
  period : Option Nat
  fallback : Option Int
  reference : Option Int
  remaining : Option Nat
  /-- The fallback-pending mark, set with its order mark: the number of acceptances at the expiry (R116;
  notes/assumptions/11.md). -/
  mark : Option Nat
  violations : Nat
  denials : Nat
  /-- Bits 0 to 5: LOW, HIGH, STEP, PARTIAL, STRADDLE, STALE (R9, R182). -/
  sticky : BitVec 6
  deriving DecidableEq, Repr

/-- One group record (R49). The staged values stand in `State.staged`. -/
structure Group where
  enabled : Bool
  timeout : Nat
  reportCommit : Bool
  state : GroupState
  remaining : Option Nat
  /-- The order mark: the number of acceptances at the completing write's event (R53; notes/assumptions/11.md). -/
  mark : Option Nat
  deriving DecidableEq, Repr

/-- How a slot is answered (section 4.4). The overlay holds, for each byte position of the read, the captured staged
byte or nothing where the position is not masked (R66). -/
inductive Disposition where
  | forward
  | forwardOverlay (overlay : List (Option Byte))
  | answerLocal
  deriving DecidableEq, Repr

/-- The state of an occupied slot; the answer status and read data are present once ANSWERED (R77, R78). -/
inductive SlotState where
  | waitIssue
  | waitMemory
  | answered (status : AnswerStatus) (readData : Word)
  deriving DecidableEq, Repr

/-- One occupied slot of the Transit Queue (R77). -/
structure Slot where
  number : Word
  tag : BitVec 4
  op : Op
  /-- The width code as presented, or for a forwarded slot the code of the width to be issued. -/
  wcode : BitVec 2
  address : Word
  data : Word
  cls : AddrClass
  covered : Option (Fin 48)
  disposition : Disposition
  state : SlotState
  deriving DecidableEq, Repr

/-- An answer on the near port (R74). -/
structure NpAnswer where
  tag : BitVec 4
  status : AnswerStatus
  readData : Word
  deriving DecidableEq, Repr

/-- A request on the far port (R89). -/
structure FpRequest where
  op : Op
  width : Width
  address : Word
  data : Word
  deriving DecidableEq, Repr

/-- Whom a far-port answer belongs to (R91). -/
inductive Origin where
  | tqSlot (number : Word)
  | commitMember (group : Fin 8) (entry : Fin 48)
  | fallback (entry : Fin 48)
  | ringRead (slot : Nat)
  | ringWrite (slot : Nat) (word : Fin 4)
  deriving DecidableEq, Repr

/-- One entry of the issue log (R91). -/
structure LogEntry where
  origin : Origin
  request : FpRequest
  deriving DecidableEq, Repr

/-- One member write of the commit buffer (R61). -/
structure CommitWrite where
  group : Fin 8
  entry : Fin 48
  address : Word
  width : Width
  value : Int
  deriving DecidableEq, Repr

/-- What a record concerns (R127). -/
inductive Subject where
  | entry (index : Fin 48)
  | group (g : Fin 8)
  | nothing
  deriving DecidableEq, Repr

/-- The kind of a record with its particulars (R127, R181). -/
inductive Detail where
  | malformed (op : Op) (wcode : BitVec 2)
  | limit (low high step : Bool) (applied : Action)
  | partialWrite (outcome : Action)
  | straddle (coveredEntries : Nat) (outcome : Action)
  | trip (violations : Nat)
  | stale (fallbackPending : Bool)
  | commit (memberWrites : Nat)
  | abandon (stagedMask : Byte) (cause : AbandonCause)
  | memErr (origin : MemErrOrigin)
  | loss
  deriving DecidableEq, Repr

/-- A report record before posting; the posting writes it host-owned (R127). -/
structure Record where
  detail : Detail
  sequence : Byte
  subject : Subject
  address : Word
  value : Word
  timestamp : Word
  deriving DecidableEq, Repr

/-- Where the posting of the head record stands (R134). -/
inductive Posting where
  /-- No posting in flight; while the ring is RUNNING and a record waits, step 1 is offered. -/
  | idle
  /-- The ownership read is issued and not yet answered. -/
  | reading
  /-- The write of this word is offered. -/
  | offered (word : Fin 4)
  /-- The write of this word is issued and not yet answered. -/
  | writing (word : Fin 4)
  deriving DecidableEq, Repr

/-- What the select line of the management link is doing (R159, R160). -/
inductive FrameState where
  /-- Select is high. -/
  | idle
  /-- A frame for the checker is in progress. -/
  | opened
  /-- Select is low in a frame that is not a frame for the checker. -/
  | void
  deriving DecidableEq, Repr

/-- A management response; its length and CRC follow from these (R182). -/
structure Response where
  status : Status
  payload : List Byte
  deriving DecidableEq, Repr

/-- The whole state of the checker. -/
structure State where
  /-- Commands and events waiting to be taken, oldest first (the model's own; notes/assumptions/1.md). -/
  pending : List Instr
  /-- The checker is in device reset (R184). -/
  inReset : Bool
  /-- The request that stands on the near port's request channel and is not accepted yet (R73, R75). -/
  presented : Option NpRequest
  /-- The near port's answer channel: the answer last sent (R84). -/
  npAnswer : Option NpAnswer
  /-- The occupied slots of the Transit Queue, oldest first (R75). -/
  slots : List Slot
  /-- Acceptances since device reset; the acceptance count is its residue modulo 2^32 (R76; notes/assumptions/11.md). -/
  accepted : Nat
  /-- The Watch Table (R1). -/
  entries : Vector Entry 48
  /-- The group records 1 to 8, at index number minus 1 (R49). -/
  groups : Vector Group 8
  /-- The staged value of each group member, by entry index (R49; notes/assumptions/16.md). -/
  staged : Vector (Option Int) 48
  /-- The commit-wait list, head first (R60). -/
  commitWait : List (Fin 8)
  /-- The member writes of the run in progress not yet issued; a run is in progress while it is not empty (R61, R62). -/
  commitBuffer : List CommitWrite
  /-- The far port's request channel: the request last issued (R89). -/
  fpRequest : Option FpRequest
  /-- The issue log, oldest first (R91). -/
  issueLog : List LogEntry
  /-- The drain count (R106). -/
  drain : Nat
  /-- The tick length set by SET_TICK, in microseconds (R108). -/
  tickLength : Nat
  /-- The length with which the tick interval in progress began (R108). -/
  intervalLength : Nat
  /-- CLK periods counted in the microsecond in progress (R108). -/
  clkCount : Nat
  /-- Microseconds counted in the tick interval in progress (R108). -/
  usCount : Nat
  /-- The tick counter (R109). -/
  tickCounter : Word
  /-- The pending record queue, oldest first (R130). -/
  records : List Record
  /-- The sequence counter (R126). -/
  sequence : Byte
  /-- The lost counter (R131). -/
  lost : Nat
  ringState : RingState
  ringBase : Word
  ringSlots : Nat
  /-- The ring slot the next posting writes (R132). -/
  head : Nat
  posting : Posting
  /-- The alert causes, bits 0 to 7: RECORD, LIMIT, TRIP, STALE, GROUP, FAULT, RING, LOSS (R145, R182). -/
  causes : Byte
  /-- The alert mask, in the same bits (R146). -/
  mask : Byte
  /-- The guard mode (R150). -/
  mode : Mode
  frame : FrameState
  /-- The frame receiver: the whole bytes since select fell (R159). -/
  receiver : List Byte
  /-- The held response (R159). -/
  held : Response
  /-- The outgoing byte last completed on MSDO; none while select is high (R160). -/
  outByte : Option Byte
  deriving DecidableEq, Repr

/-- A VACANT entry: the values of R24. -/
def Entry.vacant : Entry where
  state := .vacant
  address := 0
  width := .w1
  signed := false
  action := .pass
  mergePartial := false
  low := none
  high := none
  step := 0
  trip := 0
  group := none
  period := none
  fallback := none
  reference := none
  remaining := none
  mark := none
  violations := 0
  denials := 0
  sticky := 0

/-- A group record after device reset (R72). -/
def Group.initial : Group where
  enabled := false
  timeout := 65535
  reportCommit := false
  state := .idle
  remaining := none
  mark := none

/-- The response OK with length 0 (R159, R167). -/
def Response.okEmpty : Response where
  status := .ok
  payload := []

/-- The checker right after power has been applied and RST_N has first been sampled high (R24, R72, R88, R105, R106,
R124, R149, R158, R159, R184; notes/assumptions/2.md). -/
def State.reset : State where
  pending := []
  inReset := false
  presented := none
  npAnswer := none
  slots := []
  accepted := 0
  entries := Vector.replicate 48 Entry.vacant
  groups := Vector.replicate 8 Group.initial
  staged := Vector.replicate 48 none
  commitWait := []
  commitBuffer := []
  fpRequest := none
  issueLog := []
  drain := 0
  tickLength := 1
  intervalLength := 1
  clkCount := 0
  usCount := 0
  tickCounter := 0
  records := []
  sequence := 0
  lost := 0
  ringState := .off
  ringBase := 0
  ringSlots := 0
  head := 0
  posting := .idle
  causes := 0
  mask := 0
  mode := .bypass
  frame := .idle
  receiver := []
  held := Response.okEmpty
  outByte := none

end Sys2Proof.Machine
end

