-- ==== Sys2Proof/Machine/Operands.lean ====
section
/-! DEFINITION. How bytes, words and payload fields are read as values and written back: widths, types, byte order,
merging and overlay. -/

namespace Sys2Proof.Machine

/-! ## Widths and types (R2) -/

/-- The number of bytes of a width. -/
def Width.bytes : Width → Nat
  | .w1 => 1
  | .w2 => 2
  | .w4 => 4

/-- The width code of a width (R73). -/
def Width.code : Width → BitVec 2
  | .w1 => 0
  | .w2 => 1
  | .w4 => 2

/-- The width of a width code (R73). Code 3 names no width: a request that carries it is malformed and is never issued
(R26), so the value given for it is not used (notes/assumptions/18.md). -/
def Width.ofCode (c : BitVec 2) : Width :=
  if c = 0 then .w1 else if c = 1 then .w2 else .w4

/-- The low 8 × width bits of a word. -/
def Width.mask : Width → Word
  | .w1 => 0xFF
  | .w2 => 0xFFFF
  | .w4 => 0xFFFFFFFF

/-- The type minimum (R2). -/
def Width.typeMin (w : Width) (signed : Bool) : Int :=
  match signed, w with
  | false, _ => 0
  | true, .w1 => -128
  | true, .w2 => -32768
  | true, .w4 => -2147483648

/-- The type maximum (R2). -/
def Width.typeMax (w : Width) (signed : Bool) : Int :=
  match signed, w with
  | false, .w1 => 255
  | false, .w2 => 65535
  | false, .w4 => 4294967295
  | true, .w1 => 127
  | true, .w2 => 32767
  | true, .w4 => 2147483647

/-- The span of a type: its maximum minus its minimum, the same for both signednesses (R2). -/
def Width.span : Width → Nat
  | .w1 => 255
  | .w2 => 65535
  | .w4 => 4294967295

/-- The value lies in the type of the width and signedness. -/
def inType (w : Width) (signed : Bool) (v : Int) : Bool :=
  decide (w.typeMin signed ≤ v) && decide (v ≤ w.typeMax signed)

/-! ## Values in words -/

/-- The low 8 × width bits, 0 in the bits above. -/
def keepLow (w : Width) (x : Word) : Word := x &&& w.mask

/-- The value the low 8 × width bits of a word form in a type (R3). -/
def readValue (w : Width) (signed : Bool) (x : Word) : Int :=
  if signed then (x.setWidth (8 * w.bytes)).toInt else ((x.setWidth (8 * w.bytes)).toNat : Int)

/-- A 32-bit payload field read by R2: two's complement for a signed entry, plain binary for an unsigned one. -/
def fieldValue (signed : Bool) (x : Word) : Int :=
  if signed then x.toInt else (x.toNat : Int)

/-- A value as a 32-bit field: two's complement, which is plain binary when it is not negative (R127, R173). -/
def valueWord (v : Int) : Word := BitVec.ofInt 32 v

/-- A value as far-port data: its low 8 × width bits, 0 above (R62, R117). -/
def valueData (w : Width) (v : Int) : Word := keepLow w (valueWord v)

/-! ## Bytes -/

/-- Byte j of a word, counted from the least significant. -/
def byteAt (x : Word) (j : Nat) : Byte := x.extractLsb' (8 * j) 8

/-- The word whose bytes, least significant first, are those of the list. -/
def wordOfBytes : List Byte → Word
  | [] => 0
  | b :: bs => b.setWidth 32 ||| (wordOfBytes bs <<< 8)

/-- The base with its bytes k to k + width − 1 replaced by the low bytes of the data (R27, R40). -/
def mergeBytes (base : Word) (k : Nat) (w : Width) (data : Word) : Word :=
  (base &&& ~~~(w.mask <<< (8 * k))) ||| ((data <<< (8 * k)) &&& (w.mask <<< (8 * k)))

/-- The memory's data with each masked byte replaced by its captured byte; the bits above the read are 0 (R66, R82). -/
def applyOverlay (memory : Word) (overlay : List (Option Byte)) : Word :=
  wordOfBytes (overlay.zipIdx.map fun p => p.1.getD (byteAt memory p.2))

/-- The low n bytes of a number, least significant first (R161). -/
def leBytes : Nat → Nat → List Byte
  | 0, _ => []
  | n + 1, x => BitVec.ofNat 8 x :: leBytes n (x / 256)

/-- The number whose binary digits, least significant first, are those of the list. -/
def bitsNat : List Bool → Nat
  | [] => 0
  | b :: bs => b.toNat + 2 * bitsNat bs

/-! ## Ranges of bytes -/

/-- Two runs of bytes, each given by its first address and its length, share a byte. -/
def rangesMeet (a m b n : Nat) : Bool := decide (a < b + n) && decide (b < a + m)

/-- The first run of bytes lies wholly inside the second. -/
def rangeInside (a m b n : Nat) : Bool := decide (b ≤ a) && decide (a + m ≤ b + n)

/-! ## Codes (R4, R13, R150, R166, R169, R174) -/

def Action.code : Action → Nat
  | .pass => 0
  | .clamp => 1
  | .hold => 2
  | .deny => 3

/-- The action of a payload byte; none above 3 (R18, R19). -/
def Action.ofCode (b : Byte) : Option Action :=
  match b.toNat with
  | 0 => some .pass
  | 1 => some .clamp
  | 2 => some .hold
  | 3 => some .deny
  | _ => none

def EntryState.code : EntryState → Nat
  | .vacant => 0
  | .ready => 1
  | .stale => 2
  | .latched => 3

def Mode.code : Mode → Nat
  | .bypass => 0
  | .monitor => 1
  | .enforce => 2

/-- The mode of a SET_MODE code; none above 2 (R151). -/
def Mode.ofCode (b : Byte) : Option Mode :=
  match b.toNat with
  | 0 => some .bypass
  | 1 => some .monitor
  | 2 => some .enforce
  | _ => none

def GroupState.code : GroupState → Nat
  | .idle => 0
  | .opened => 1
  | .commitWait => 2

def RingState.code : RingState → Nat
  | .off => 0
  | .running => 1
  | .suspended => 2
  | .stopped => 3

def Status.code : Status → Byte
  | .ok => 0
  | .unknown => 1
  | .badFrame => 2
  | .badArg => 3
  | .conflict => 4
  | .state => 5
  | .busy => 6

def AbandonCause.code : AbandonCause → Nat
  | .timeout => 0
  | .mode => 1
  | .disable => 2

def MemErrOrigin.code : MemErrOrigin → Nat
  | .controllerRead => 0
  | .controllerWrite => 1
  | .commit => 2
  | .fallback => 3

/-! ## Names carried in payloads -/

/-- The entry an index byte names; none above 47 (R22). -/
def entryOf (b : Byte) : Option (Fin 48) :=
  if h : b.toNat < 48 then some ⟨b.toNat, h⟩ else none

/-- The group a number 1 to 8 names, at its number minus 1; none for any other number (R49). -/
def groupOf (n : Nat) : Option (Fin 8) :=
  if h : 1 ≤ n ∧ n ≤ 8 then some ⟨n - 1, by omega⟩ else none

/-- The number of a group. -/
def groupNumber (g : Fin 8) : Nat := g.val + 1

/-! ## Payload bytes (R161, R183) -/

def loadBytes (p : LoadPayload) : List Byte :=
  [p.index] ++ leBytes 4 p.address.toNat ++ [p.wcode, p.flags, p.action] ++ leBytes 4 p.low.toNat
    ++ leBytes 4 p.high.toNat ++ leBytes 4 p.step.toNat ++ [p.trip, p.group] ++ leBytes 2 p.period.toNat
    ++ leBytes 4 p.fallback.toNat

def tuneBytes (p : TunePayload) : List Byte :=
  [p.index, p.action, p.flags] ++ leBytes 4 p.low.toNat ++ leBytes 4 p.high.toNat ++ leBytes 4 p.step.toNat
    ++ [p.trip]

def freshBytes (p : FreshPayload) : List Byte :=
  [p.index, p.flags] ++ leBytes 2 p.period.toNat ++ leBytes 4 p.fallback.toNat

def groupBytes (p : GroupPayload) : List Byte :=
  [p.group] ++ leBytes 2 p.timeout.toNat ++ [p.flags]

/-- A payload part that is present only when its flag is set (R170). -/
def present {α : Type} (flag : Bool) (v : α) : Option α := if flag then some v else none

end Sys2Proof.Machine
end

