-- ==== Sys2Proof/Machine/Flags.lean ====
section
/-! DEFINITION. The flag sets of the checker: sticky flags, alert causes, the checks of a judgement, and the detail bits
of a record. -/

namespace Sys2Proof.Machine

/-! ## Sticky flags (R9, R182) -/

def stickyLow : BitVec 6 := 0x01
def stickyHigh : BitVec 6 := 0x02
def stickyStep : BitVec 6 := 0x04
def stickyPartial : BitVec 6 := 0x08
def stickyStraddle : BitVec 6 := 0x10
def stickyStale : BitVec 6 := 0x20

/-! ## Alert causes (R145, R182) -/

def causeRecord : Byte := 0x01
def causeLimit : Byte := 0x02
def causeTrip : Byte := 0x04
def causeStale : Byte := 0x08
def causeGroup : Byte := 0x10
def causeFault : Byte := 0x20
def causeRing : Byte := 0x40
def causeLoss : Byte := 0x80

/-! ## The checks of a judgement (R30) -/

/-- The checks a value failed. -/
structure Failed where
  low : Bool
  high : Bool
  step : Bool
  deriving DecidableEq, Repr

/-- The write is a violating write (R30). -/
def Failed.any (f : Failed) : Bool := f.low || f.high || f.step

/-- The sticky flags of the failed checks (R31). -/
def Failed.sticky (f : Failed) : BitVec 6 :=
  (if f.low then stickyLow else 0) ||| (if f.high then stickyHigh else 0) ||| (if f.step then stickyStep else 0)

/-- The value is below a present low limit (R5). -/
def belowLow (low : Option Int) (v : Int) : Bool :=
  match low with
  | some l => decide (v < l)
  | none => false

/-- The value is above a present high limit (R5). -/
def aboveHigh (high : Option Int) (v : Int) : Bool :=
  match high with
  | some h => decide (h < v)
  | none => false

/-- The exact difference exceeds the step (R6, R30). -/
def beyondStep (step : Nat) (reference : Option Int) (v : Int) : Bool :=
  match reference with
  | some r => decide (0 < step) && decide (step < (v - r).natAbs)
  | none => false

/-- The three checks, all made whatever the others find (R30). -/
def Entry.checks (e : Entry) (v : Int) : Failed where
  low := belowLow e.low v
  high := aboveHigh e.high v
  step := beyondStep e.step e.reference v

/-! ## Record codes and bits (R127, R181) -/

def Detail.kind : Detail → Nat
  | .limit .. => 1
  | .partialWrite _ => 2
  | .straddle .. => 3
  | .malformed .. => 4
  | .trip _ => 5
  | .stale _ => 6
  | .commit _ => 7
  | .abandon .. => 8
  | .memErr _ => 9
  | .loss => 10

/-- The operation's code in the MALFORMED detail. -/
def opCode : Op → Nat
  | .read => 0
  | .write => 1

/-- Bits 0 to 9 of word 0, by kind. -/
def Detail.bits : Detail → BitVec 10
  | .malformed op wcode => BitVec.ofNat 10 (opCode op + 2 * wcode.toNat)
  | .limit low high step applied => BitVec.ofNat 10 (bitsNat [low, high, step] + 8 * applied.code)
  | .partialWrite outcome => BitVec.ofNat 10 (8 * outcome.code)
  | .straddle n outcome => BitVec.ofNat 10 (n % 8 + 8 * outcome.code)
  | .trip n => BitVec.ofNat 10 (n % 256)
  | .stale p => BitVec.ofNat 10 p.toNat
  | .commit n => BitVec.ofNat 10 (n % 16)
  | .abandon mask cause => BitVec.ofNat 10 (mask.toNat + 256 * cause.code)
  | .memErr origin => BitVec.ofNat 10 origin.code
  | .loss => 0

/-- Bits 10 to 15 of word 0: the entry, the group number, or 63 for none. -/
def Subject.bits : Subject → BitVec 6
  | .entry i => BitVec.ofNat 6 i.val
  | .group g => BitVec.ofNat 6 (groupNumber g)
  | .nothing => 63

/-- The words of a record as a posting writes them, word 0 with ownership bit 1 (R134, R181). -/
def Record.word (r : Record) : Fin 4 → Word
  | 0 => BitVec.ofNat 32
      (2 ^ 31 + r.detail.kind * 2 ^ 24 + r.sequence.toNat * 2 ^ 16 + r.subject.bits.toNat * 2 ^ 10
        + r.detail.bits.toNat)
  | 1 => r.address
  | 2 => r.value
  | 3 => r.timestamp

end Sys2Proof.Machine
end

