-- ==== Sys2Proof/Machine/Ops.lean ====
section
/-! DEFINITION. The named operations over the state that several commands share: entries, groups and staging, records
and alert causes, abandonment, and the issue of a far-port request. -/

namespace Sys2Proof.Machine

/-! ## Entries, groups and staged values -/

/-- The table whose place i holds f i. It is kept folded in proofs; `tabulate_getElem` reads it. -/
@[irreducible] def tabulate {α : Type} {n : Nat} (f : Fin n → α) : Vector α n := Vector.ofFn f

def State.entry (s : State) (i : Fin 48) : Entry := s.entries[i]

def State.setEntry (s : State) (i : Fin 48) (e : Entry) : State := { s with entries := s.entries.set i e }

/-- Every entry replaced by a function of its index and itself. -/
def State.mapEntries (s : State) (f : Fin 48 → Entry → Entry) : State :=
  { s with entries := tabulate fun i => f i s.entries[i] }

def State.group (s : State) (g : Fin 8) : Group := s.groups[g]

def State.setGroup (s : State) (g : Fin 8) (x : Group) : State := { s with groups := s.groups.set g x }

def State.stagedValue (s : State) (i : Fin 48) : Option Int := s.staged[i]

def State.setStaged (s : State) (i : Fin 48) (v : Option Int) : State := { s with staged := s.staged.set i v }

/-- The entry is READY, STALE or LATCHED (R1). -/
def Entry.occupied (e : Entry) : Bool := decide (e.state ≠ .vacant)

/-- The acceptance count: a 32-bit number that wraps (R76). -/
def State.acceptCount (s : State) : Word := BitVec.ofNat 32 s.accepted

/-! ## Placement (R16, R17) -/

/-- The entry's bytes meet the run of `n` bytes from `a` (R2). -/
def Entry.meets (e : Entry) (a n : Nat) : Bool := rangesMeet e.address.toNat e.width.bytes a n

/-- Some occupied entry covers a byte of the run. -/
def State.entryMeets (s : State) (a n : Nat) : Bool :=
  (List.finRange 48).any fun i => (s.entry i).occupied && (s.entry i).meets a n

/-- The ring region covers a byte of the run; in OFF there is no region (R17). -/
def State.ringMeets (s : State) (a n : Nat) : Bool :=
  decide (s.ringState ≠ .off) && rangesMeet s.ringBase.toNat (16 * s.ringSlots) a n

/-! ## Membership (R50) -/

/-- The entry is an occupied member of the group. -/
def State.isMember (s : State) (g : Fin 8) (i : Fin 48) : Bool :=
  (s.entry i).occupied && decide ((s.entry i).group = some g)

/-- An entry placed in a list that stands in ascending address order. -/
def State.insertMember (s : State) (i : Fin 48) : List (Fin 48) → List (Fin 48)
  | [] => [i]
  | j :: js =>
    if (s.entry i).address.toNat ≤ (s.entry j).address.toNat then i :: j :: js
    else j :: s.insertMember i js

/-- The members of a group in ascending address order (R50). -/
def State.members (s : State) (g : Fin 8) : List (Fin 48) :=
  ((List.finRange 48).filter (s.isMember g)).foldr s.insertMember []

/-- The enabled group an entry is a member of (R10, R35). -/
def State.enabledGroup (s : State) (e : Entry) : Option (Fin 8) :=
  match e.group with
  | some g => if (s.group g).enabled then some g else none
  | none => none

/-- The address of the group's lowest member (R70). A group without members abandons and commits nothing
(notes/assumptions/18.md). -/
def State.lowestAddress (s : State) (g : Fin 8) : Word :=
  match s.members g with
  | i :: _ => (s.entry i).address
  | [] => 0

/-- The staged-member mask: bit p for the member at position p, 0 to 7 (R50, R70). -/
def State.stagedMask (s : State) (g : Fin 8) : Byte :=
  BitVec.ofNat 8 (bitsNat (((s.members g).take 8).map fun i => (s.stagedValue i).isSome))

/-- Every member of the group holds a staged value (R53). -/
def State.allStaged (s : State) (g : Fin 8) : Bool :=
  (s.members g).all fun i => (s.stagedValue i).isSome

/-- The staged values of the group's members discarded (R55, R61). -/
def State.clearStaged (s : State) (g : Fin 8) : State :=
  { s with staged := tabulate fun i => if s.isMember g i then none else s.staged[i] }

/-! ## Alert causes and records -/

/-- A cause set; one already set stays set (R145). -/
def State.setCause (s : State) (c : Byte) : State := { s with causes := s.causes ||| c }

/-- The alert output is active: a cause is both set and enabled, and the checker is not in device reset (R146, R185). -/
def State.alertActive (s : State) : Bool := !s.inReset && decide (s.causes &&& s.mask ≠ 0)

/-- A record discarded for a full queue is counted; the rise from 0 to 1 sets LOSS (R131). -/
def State.countLost (s : State) : State :=
  { s with
    lost := if s.lost < Config.countMax then s.lost + 1 else s.lost
    causes := if s.lost = 0 then s.causes ||| causeLoss else s.causes }

/-- A record created: none while the ring is OFF; otherwise it takes the sequence number and the tick counter and joins
the queue, or is discarded and counted when the queue is full (R125, R126). -/
def State.createRecord (s : State) (detail : Detail) (subject : Subject) (address value : Word) : State :=
  match s.ringState with
  | .off => s
  | .running | .suspended | .stopped =>
    if s.records.length < Config.recordPlaces then
      { s with
        sequence := s.sequence + 1
        records := s.records ++ [{ detail, sequence := s.sequence, subject, address, value,
                                   timestamp := s.tickCounter }] }
    else ({ s with sequence := s.sequence + 1 }).countLost

/-- A MEMERR record with the FAULT cause (R83, R63, R118). -/
def State.memErr (s : State) (origin : MemErrOrigin) (subject : Subject) (address value : Word) : State :=
  (s.createRecord (.memErr origin) subject address value).setCause causeFault

/-! ## Abandonment (R55) -/

/-- An OPEN round abandoned: the record with the mask as it stood, the staged values discarded, the group IDLE with no
countdown, and the GROUP cause set. -/
def State.abandon (s : State) (g : Fin 8) (cause : AbandonCause) : State :=
  let x := s.group g
  let s1 := s.createRecord (.abandon (s.stagedMask g) cause) (.group g) (s.lowestAddress g)
    (BitVec.ofNat 32 (x.remaining.getD 0))
  ((s1.clearStaged g).setGroup g { x with state := .idle, remaining := none }).setCause causeGroup

/-! ## Entries as events change them -/

/-- A deadline started at the full period, absent without one (R111). -/
def Entry.startDeadline (e : Entry) : Entry := { e with remaining := e.period }

/-- One violation counted, saturating, with its sticky flags (R7, R31). -/
def Entry.countViolation (e : Entry) (flags : BitVec 6) : Entry :=
  { e with
    violations := if e.violations < Config.violationMax then e.violations + 1 else e.violations
    sticky := e.sticky ||| flags }

/-- The trip test, made after the violation is counted (R32). -/
def Entry.tripTest (e : Entry) : Bool :=
  decide (e.trip ≠ 0) && (decide (e.state = .ready) || decide (e.state = .stale)) && decide (e.trip ≤ e.violations)

/-- The entry LATCHED with no deadline (R32). -/
def Entry.latch (e : Entry) : Entry := { e with state := .latched, remaining := none }

/-- One latched denial counted, saturating (R8). -/
def Entry.countDenial (e : Entry) : Entry :=
  { e with denials := if e.denials < Config.countMax then e.denials + 1 else e.denials }

/-- An admitted ungrouped write: the reference set, a pending fallback cancelled, and, unless the entry is LATCHED, the
entry READY with its deadline started (R36, R14). -/
def Entry.admitValue (e : Entry) (v : Int) : Entry :=
  if e.state = .latched then { e with reference := some v, mark := none }
  else { e with reference := some v, mark := none, state := .ready, remaining := e.period }

/-- The deadline runs: READY outside BYPASS (R110). -/
def Entry.deadlineRuns (e : Entry) (m : Mode) : Bool := decide (e.state = .ready) && decide (m ≠ .bypass)

/-! ## The far port's channel -/

/-- A request issued: it leaves on the far port and is appended to the issue log (R89, R91). -/
def State.issueRequest (s : State) (origin : Origin) (r : FpRequest) : State :=
  { s with issueLog := s.issueLog ++ [{ origin, request := r }], fpRequest := some r }

end Sys2Proof.Machine
end

