-- ==== Sys2Proof/Machine/Link.lean ====
section
/-! DEFINITION. The Management Link: frames, the CRC, the held response, and the taking of a command (chapter 9). -/

namespace Sys2Proof.Machine

/-! ## CRC-8 (R162) -/

/-- One shift of the register: its top bit drops out, and polynomial 0x07 is exclusive-ORed in if that bit was 1. -/
def crcShift (reg : Byte) : Byte := if reg.getLsbD 7 then (reg <<< 1) ^^^ 0x07 else reg <<< 1

/-- One byte taken: exclusive-ORed into the register, then eight shifts. -/
def crcByte (reg b : Byte) : Byte := Nat.repeat crcShift 8 (reg ^^^ b)

/-- The CRC of a run of bytes, from register 0x00. -/
def crc (bytes : List Byte) : Byte := bytes.foldl crcByte 0

/-! ## Frames (R161, R164, section 9.3) -/

/-- The payload length a command code requires; none for a code outside the catalogue. -/
def commandLength (code : Byte) : Option Nat :=
  match code.toNat with
  | 0x00 => some 0
  | 0x10 => some 1
  | 0x11 => some 0
  | 0x20 => some 28
  | 0x21 => some 16
  | 0x22 => some 8
  | 0x23 => some 1
  | 0x24 => some 1
  | 0x25 => some 5
  | 0x26 => some 1
  | 0x27 => some 2
  | 0x28 => some 1
  | 0x30 => some 4
  | 0x31 => some 1
  | 0x40 => some 6
  | 0x41 => some 0
  | 0x42 => some 0
  | 0x50 => some 2
  | 0x51 => some 0
  | 0x60 => some 1
  | 0x61 => some 1
  | _ => none

/-- What the examination of a frame's whole bytes finds (R164). -/
inductive FrameVerdict where
  | notTaken (status : Status)
  | command (code : Byte) (payload : List Byte)
  deriving DecidableEq, Repr

/-- The examination of a frame whose length byte can be read: `rest` stands after it. -/
def examineBody (code length : Byte) (rest : List Byte) : FrameVerdict :=
  let n := length.toNat
  if Config.commandPayloadMax < n then .notTaken .badFrame
  else
    match rest.drop n with
    | [] => .notTaken .badFrame
    | check :: _ =>
      if check ≠ crc (code :: length :: rest.take n) then .notTaken .badFrame
      else
        match commandLength code with
        | none => .notTaken .unknown
        | some required => if required = n then .command code (rest.take n) else .notTaken .badArg

/-- The conditions of R164 in their order; bytes after the CRC byte are ignored (R161). -/
def examineFrame : List Byte → FrameVerdict
  | code :: length :: rest => examineBody code length rest
  | _ => .notTaken .badFrame

/-- The bytes of a command frame (R161). -/
def commandFrame (code : Byte) (payload : List Byte) : List Byte :=
  let body := code :: BitVec.ofNat 8 payload.length :: payload
  body ++ [crc body]

/-- The bytes of a response, CRC included (R182). -/
def Response.bytes (r : Response) : List Byte :=
  let body := r.status.code :: BitVec.ofNat 8 r.payload.length :: r.payload
  body ++ [crc body]

/-- A refusal: every status other than OK carries length 0 (R166). -/
def Response.refusal (status : Status) : Response := { status, payload := [] }

/-- The answer OK with a payload (R165). -/
def Response.okWith (payload : List Byte) : Response := { status := .ok, payload }

/-! ## The events of a frame -/

/-- FRAME_START: select falls and the receiver is empty. A frame whose select falls in device reset is none for the checker
(R159); one that begins before the frame before it is taken replaces that frame (R186). -/
def State.frameStart (s : State) : State :=
  { s with frame := if s.inReset then .void else .opened, receiver := [], outByte := none }

def execFrameStart (s : State) : Host.Outcome State Fault Refusal := .next s.frameStart

/-- INCOMING_BYTE: the byte joins the receiver, and the byte of the held response at its place goes out, 0x00 after its
end (R160, R163). Of a frame that is not one for the checker the byte is discarded, and 0x00 goes out: in device reset by
R159, and after it because the held response is the one that the reset set, 0x00 in every byte with its filler, and nothing
replaces it before that frame ends (R163, R164; notes/assumptions/8.md). While select is high the clock is ignored. -/
def State.incomingByte (s : State) (b : Byte) : State :=
  match s.frame with
  | .idle => s
  | .opened =>
    { s with receiver := s.receiver ++ [b], outByte := some (s.held.bytes.getD s.receiver.length 0) }
  | .void => { s with outByte := some 0 }

def execIncomingByte (b : Byte) (s : State) : Host.Outcome State Fault Refusal := .next (s.incomingByte b)

/-- Select released: the line high and the receiver empty (R164). -/
def State.releaseSelect (s : State) : State := { s with frame := .idle, receiver := [], outByte := none }

/-- FRAME_NOT_TAKEN: a select release that takes no command. A frame for the checker that R164 does not take leaves the
status of its first failed condition as the held response; a frame that is not one for the checker leaves the held response
unchanged. A release that does take a command is that command's own row, and without a frame there is no release. -/
def State.frameNotTaken (s : State) : State :=
  match s.frame with
  | .idle => s
  | .void => s.releaseSelect
  | .opened =>
    match examineFrame s.receiver with
    | .notTaken status => { s.releaseSelect with held := Response.refusal status }
    | .command _ _ => s

def execFrameNotTaken (s : State) : Host.Outcome State Fault Refusal := .next s.frameNotTaken

/-! ## Taking a command (R164, R165) -/

/-- The select release delivers this command: outside device reset, either the frame in progress carries it whole, or no
frame is in progress and the command stands for its whole frame (notes/assumptions/7.md). -/
def State.delivers (s : State) (code : Byte) (payload : List Byte) : Bool :=
  !s.inReset &&
    match s.frame with
    | .idle => true
    | .opened => decide (examineFrame s.receiver = .command code payload)
    | .void => false

/-- A command taken in one event: it acts on the state or refuses and changes nothing, its response becomes the held
response, and the receiver is emptied (R164, R165). -/
def State.takeCommand (s : State) (code : Byte) (payload : List Byte) (act : State → State × Response) : State :=
  if s.delivers code payload then
    { (act s).1 with held := (act s).2, frame := .idle, receiver := [], outByte := none }
  else s

/-- NOP (R167). -/
def execNop (s : State) : Host.Outcome State Fault Refusal :=
  .next (s.takeCommand 0x00 [] fun t => (t, Response.okEmpty))

end Sys2Proof.Machine
end

