-- ==== Sys2Proof/Machine/Control.lean ====
section
/-! DEFINITION. Mode Control, status and time commands: SET_MODE, GET_STATUS, SET_TICK, READ_TIME, SET_ALERT_MASK and
ACK_ALERTS (chapter 8, R108, R146, R147, R169, R176, R177). -/

namespace Sys2Proof.Machine

/-! ## The guard mode (R151 to R154) -/

/-- Every fallback-pending mark cleared (R120). -/
def State.clearMarks (s : State) : State := s.mapEntries fun _ e => { e with mark := none }

/-- A READY entry with a period gets its deadline at the full period (R153). -/
def Entry.leaveBypass (e : Entry) : Entry :=
  if e.state = .ready ∧ e.period.isSome = true then e.startDeadline else e

/-- A group abandoned with cause MODE if it is OPEN (R57). -/
def State.abandonIfOpen (s : State) (g : Fin 8) : State :=
  if (s.group g).state = .opened then s.abandon g .mode else s

/-- Every OPEN group abandoned, in ascending group number (R57, R152). -/
def State.abandonOpen (s : State) : State := (List.finRange 8).foldl (fun t g => t.abandonIfOpen g) s

/-- The effects of a change from one mode to another, beside the mode itself (R152, R153, R154). -/
def State.modeEffects (s : State) (old new : Mode) : State :=
  match old, new with
  | .bypass, .monitor => s.mapEntries fun _ e => e.leaveBypass
  | .bypass, .enforce => s.mapEntries fun _ e => e.leaveBypass
  | .monitor, .bypass => s.abandonOpen
  | .enforce, .bypass => s.abandonOpen.clearMarks
  | .enforce, .monitor => s.clearMarks
  | .monitor, .enforce => s
  | .bypass, .bypass => s
  | .monitor, .monitor => s
  | .enforce, .enforce => s

/-- A mode set: no effect when it stands already (R151). -/
def State.changeMode (s : State) (new : Mode) : State := { s.modeEffects s.mode new with mode := new }

def setModeAct (code : Byte) (s : State) : State × Response :=
  match Mode.ofCode code with
  | some m => (s.changeMode m, Response.okEmpty)
  | none => (s, Response.refusal .badArg)

/-- SET_MODE (R151, R168). -/
def execSetMode (code : Byte) (s : State) : Host.Outcome State Fault Refusal :=
  .next (s.takeCommand 0x10 [code] (setModeAct code))

/-! ## Status and time -/

/-- The 12 bytes of GET_STATUS (R169, R183). -/
def State.statusBytes (s : State) : List Byte :=
  [BitVec.ofNat 8 s.mode.code, BitVec.ofNat 8 s.ringState.code] ++ leBytes 2 s.head
    ++ [BitVec.ofNat 8 s.records.length] ++ leBytes 2 s.lost
    ++ [s.causes, s.mask, BitVec.ofNat 8 s.slots.length, BitVec.ofNat 8 s.issueLog.length,
        BitVec.ofNat 8 s.commitWait.length]

/-- GET_STATUS (R169). -/
def execGetStatus (s : State) : Host.Outcome State Fault Refusal :=
  .next (s.takeCommand 0x11 [] fun t => (t, Response.okWith t.statusBytes))

def setTickAct (length : Half) (s : State) : State × Response :=
  if length = 0 ∨ 256 < length.toNat then (s, Response.refusal .badArg)
  else ({ s with tickLength := length.toNat }, Response.okEmpty)

/-- SET_TICK: the interval in progress keeps its length (R108, R176). -/
def execSetTick (length : Half) (s : State) : Host.Outcome State Fault Refusal :=
  .next (s.takeCommand 0x50 (leBytes 2 length.toNat) (setTickAct length))

/-- READ_TIME (R109, R176). -/
def execReadTime (s : State) : Host.Outcome State Fault Refusal :=
  .next (s.takeCommand 0x51 [] fun t => (t, Response.okWith (leBytes 4 t.tickCounter.toNat)))

/-! ## Alerts -/

/-- SET_ALERT_MASK: the whole mask replaced (R146, R177). -/
def execSetAlertMask (enables : Byte) (s : State) : Host.Outcome State Fault Refusal :=
  .next (s.takeCommand 0x60 [enables] fun t => ({ t with mask := enables }, Response.okEmpty))

/-- ACK_ALERTS: the named causes cleared (R147, R177). -/
def execAckAlerts (set : Byte) (s : State) : Host.Outcome State Fault Refusal :=
  .next (s.takeCommand 0x61 [set] fun t => ({ t with causes := t.causes &&& ~~~set }, Response.okEmpty))

end Sys2Proof.Machine
end

