-- ==== Sys2Proof/Machine/DeviceReset.lean ====
section
/-! DEFINITION. The reset input: DEVICE_RESET and RESET_RELEASE (R184 and the reset rule of each chapter). -/

namespace Sys2Proof.Machine

/-- The select line through a reset: a frame open at the reset is no frame for the checker any more (R159). -/
def frameThroughReset : FrameState → FrameState
  | .idle => .idle
  | .opened => .void
  | .void => .void

/-- DEVICE_RESET: every block at its reset values; the issue-log count is added to the drain count, which applying power
sets to 0 (R106, R184). What stands outside the checker stays: a presented request, the select line, and the model's own
queue. -/
def State.deviceReset (s : State) (power : Bool) : State :=
  { State.reset with
    pending := s.pending
    inReset := true
    presented := s.presented
    drain := if power then 0 else s.drain + s.issueLog.length
    frame := frameThroughReset s.frame }

def execDeviceReset (power : Bool) (s : State) : Host.Outcome State Fault Refusal := .next (s.deviceReset power)

/-- RESET_RELEASE: the reset ends and the first tick interval begins (R108, R184). Outside device reset there is no reset
to end. -/
def State.resetRelease (s : State) : State :=
  if s.inReset then { s with inReset := false, intervalLength := s.tickLength, clkCount := 0, usCount := 0 } else s

def execResetRelease (s : State) : Host.Outcome State Fault Refusal := .next s.resetRelease

end Sys2Proof.Machine
end

