-- ==== Sys2Proof/Machine/EntryCommands.lean ====
section
/-! DEFINITION. The commands that name an entry (sections 1.3 and 1.5, R121, R166, R170 to R173). -/

namespace Sys2Proof.Machine

/-! ## Checks shared by the commands -/

/-- A present value lies in the type (R2). -/
def optInType (w : Width) (signed : Bool) (v : Option Int) : Bool :=
  match v with
  | some x => inType w signed x
  | none => true

/-- A low limit does not exceed a high limit with both present (R5). -/
def limitsOrdered (low high : Option Int) : Bool :=
  match low, high with
  | some l, some h => decide (l ≤ h)
  | _, _ => true

/-- A present fallback value lies in the type and within the enabled limits (R11). -/
def fallbackFits (e : Entry) : Bool :=
  match e.fallback with
  | some v => inType e.width e.signed v && !belowLow e.low v && !aboveHigh e.high v
  | none => true

/-- The limits and the step lie in what the type allows (R2, R6). -/
def rulesInType (e : Entry) : Bool :=
  optInType e.width e.signed e.low && optInType e.width e.signed e.high && decide (e.step ≤ e.width.span)

/-- A named entry with its index checked first, and the refusal STATE for a VACANT one (R22, R166). -/
def onOccupied (index : Byte) (s : State) (act : Fin 48 → Entry → State × Response) : State × Response :=
  match entryOf index with
  | none => (s, Response.refusal .badArg)
  | some i =>
    if (s.entry i).occupied then act i (s.entry i) else (s, Response.refusal .state)

/-! ## LOAD_ENTRY (R18, R170) -/

/-- The entry that a LOAD_ENTRY payload describes, READY and with no history; an absent part's field is ignored. -/
def loadedEntry (p : LoadPayload) (a : Action) : Entry :=
  let signed := p.flags.getLsbD 0
  { Entry.vacant with
    state := .ready
    address := p.address
    width := Width.ofCode (p.wcode.setWidth 2)
    signed
    action := a
    mergePartial := p.flags.getLsbD 1
    low := present (p.flags.getLsbD 2) (fieldValue signed p.low)
    high := present (p.flags.getLsbD 3) (fieldValue signed p.high)
    step := p.step.toNat
    trip := p.trip.toNat
    group := if p.flags.getLsbD 4 then groupOf p.group.toNat else none
    period := present (p.flags.getLsbD 5) p.period.toNat
    fallback := present (p.flags.getLsbD 6) (fieldValue signed p.fallback) }

/-- The arguments of LOAD_ENTRY that R18 refuses with BADARG, apart from the index and the action code. -/
def loadArgsOk (p : LoadPayload) (e : Entry) : Bool :=
  decide (p.wcode.toNat ≤ 2)
    && decide (p.address.toNat % e.width.bytes = 0)
    && rulesInType e
    && limitsOrdered e.low e.high
    && (!p.flags.getLsbD 4 || e.group.isSome)
    && decide (e.period ≠ some 0)
    && !(p.flags.getLsbD 4 && p.flags.getLsbD 5)
    && (!e.fallback.isSome || e.period.isSome)
    && fallbackFits e

/-- The placement and membership tests that R18 refuses with CONFLICT. -/
def State.loadFits (s : State) (i : Fin 48) (e : Entry) : Bool :=
  !(s.entry i).occupied
    && !s.entryMeets e.address.toNat e.width.bytes
    && !s.ringMeets e.address.toNat e.width.bytes
    && (s.enabledGroup e).isNone

/-- The deadline of an entry that has become READY: started outside BYPASS, else absent until the mode leaves it (R11,
R15, R18). -/
def Entry.freshDeadline (e : Entry) (m : Mode) : Entry :=
  if m = .bypass then { e with remaining := none } else e.startDeadline

def loadEntryAct (p : LoadPayload) (s : State) : State × Response :=
  match entryOf p.index, Action.ofCode p.action with
  | some i, some a =>
    let e := loadedEntry p a
    if loadArgsOk p e then
      if s.loadFits i e then (s.setEntry i (e.freshDeadline s.mode), Response.okEmpty)
      else (s, Response.refusal .conflict)
    else (s, Response.refusal .badArg)
  | _, _ => (s, Response.refusal .badArg)

/-- LOAD_ENTRY (R18, R170). -/
def execLoadEntry (p : LoadPayload) (s : State) : Host.Outcome State Fault Refusal :=
  .next (s.takeCommand 0x20 (loadBytes p) (loadEntryAct p))

/-! ## TUNE_ENTRY (R19, R171) -/

/-- An entry with the six rules of a TUNE_ENTRY payload. -/
def tunedEntry (p : TunePayload) (a : Action) (e : Entry) : Entry :=
  { e with
    action := a
    mergePartial := p.flags.getLsbD 1
    low := present (p.flags.getLsbD 2) (fieldValue e.signed p.low)
    high := present (p.flags.getLsbD 3) (fieldValue e.signed p.high)
    step := p.step.toNat
    trip := p.trip.toNat }

/-- The refusals in the order of R166; the limits of a VACANT entry are compared as its signed field, no, reads them
(notes/assumptions/13.md). -/
def tuneEntryAct (p : TunePayload) (s : State) : State × Response :=
  match entryOf p.index, Action.ofCode p.action with
  | some i, some a =>
    let e := tunedEntry p a (s.entry i)
    if limitsOrdered e.low e.high = false then (s, Response.refusal .badArg)
    else if (s.entry i).occupied = false then (s, Response.refusal .state)
    else if rulesInType e && fallbackFits e then (s.setEntry i e, Response.okEmpty)
    else (s, Response.refusal .badArg)
  | _, _ => (s, Response.refusal .badArg)

/-- TUNE_ENTRY (R19, R171). -/
def execTuneEntry (p : TunePayload) (s : State) : Host.Outcome State Fault Refusal :=
  .next (s.takeCommand 0x21 (tuneBytes p) (tuneEntryAct p))

/-! ## SET_FRESH (R121, R171) -/

/-- An entry with the period and fallback value of a SET_FRESH payload. -/
def refreshedEntry (p : FreshPayload) (e : Entry) : Entry :=
  { e with
    period := present (p.flags.getLsbD 5) p.period.toNat
    fallback := present (p.flags.getLsbD 6) (fieldValue e.signed p.fallback) }

/-- The deadline and the mark after a SET_FRESH, by the entry's state and the mode (the table of R121). -/
def Entry.refreshed (e : Entry) (m : Mode) : Entry :=
  if e.state = .ready then { e.freshDeadline m with mark := none }
  else { e with remaining := none, mark := if e.fallback.isSome then e.mark else none }

/-- The arguments that SET_FRESH refuses with BADARG before it looks at the entry (R166). -/
def freshArgsOk (p : FreshPayload) : Bool :=
  !(p.flags.getLsbD 5 && decide (p.period = 0)) && (!p.flags.getLsbD 6 || p.flags.getLsbD 5)

def setFreshAct (p : FreshPayload) (s : State) : State × Response :=
  match entryOf p.index with
  | none => (s, Response.refusal .badArg)
  | some i =>
    let e := refreshedEntry p (s.entry i)
    if freshArgsOk p = false then (s, Response.refusal .badArg)
    else if (s.entry i).occupied = false then (s, Response.refusal .state)
    else if e.group.isSome then (s, Response.refusal .conflict)
    else if fallbackFits e then (s.setEntry i (e.refreshed s.mode), Response.okEmpty)
    else (s, Response.refusal .badArg)

/-- SET_FRESH (R121, R171). -/
def execSetFresh (p : FreshPayload) (s : State) : Host.Outcome State Fault Refusal :=
  .next (s.takeCommand 0x22 (freshBytes p) (setFreshAct p))

/-! ## RETIRE_ENTRY (R21) -/

def retireEntryAct (index : Byte) (s : State) : State × Response :=
  onOccupied index s fun i e =>
    if (s.enabledGroup e).isSome then (s, Response.refusal .conflict)
    else (s.setEntry i Entry.vacant, Response.okEmpty)

/-- RETIRE_ENTRY (R21, R172). -/
def execRetireEntry (index : Byte) (s : State) : Host.Outcome State Fault Refusal :=
  .next (s.takeCommand 0x23 [index] (retireEntryAct index))

/-! ## READ_ENTRY (R22, R173) -/

/-- A value field of a response: 0 when absent (R173). -/
def optField (v : Option Int) : List Byte := leBytes 4 (valueWord (v.getD 0)).toNat

/-- The 36 bytes of READ_ENTRY (R173, R183). -/
def entryBytes (e : Entry) : List Byte :=
  leBytes 4 e.address.toNat
    ++ [BitVec.ofNat 8 (e.width.code.toNat + 4 * e.signed.toNat + 8 * e.mergePartial.toNat + 16 * e.action.code
          + 64 * e.state.code),
        BitVec.ofNat 8 (bitsNat [e.low.isSome, e.high.isSome, e.group.isSome, e.period.isSome, e.fallback.isSome,
          e.reference.isSome, e.remaining.isSome, e.mark.isSome])]
    ++ optField e.low ++ optField e.high ++ leBytes 4 e.step ++ optField e.fallback ++ optField e.reference
    ++ [BitVec.ofNat 8 e.trip, BitVec.ofNat 8 ((e.group.map groupNumber).getD 0)]
    ++ leBytes 2 (e.period.getD 0) ++ leBytes 2 (e.remaining.getD 0)
    ++ [BitVec.ofNat 8 e.violations] ++ leBytes 2 e.denials ++ [e.sticky.setWidth 8]

def readEntryAct (index : Byte) (s : State) : State × Response :=
  match entryOf index with
  | none => (s, Response.refusal .badArg)
  | some i => (s, Response.okWith (entryBytes (s.entry i)))

/-- READ_ENTRY (R22, R173). -/
def execReadEntry (index : Byte) (s : State) : Host.Outcome State Fault Refusal :=
  .next (s.takeCommand 0x24 [index] (readEntryAct index))

/-! ## PRELOAD_REFERENCE and FORGET_REFERENCE (R20) -/

def preloadReferenceAct (index : Byte) (value : Word) (s : State) : State × Response :=
  onOccupied index s fun i e =>
    if inType e.width e.signed (fieldValue e.signed value) then
      (s.setEntry i { e with reference := some (fieldValue e.signed value) }, Response.okEmpty)
    else (s, Response.refusal .badArg)

/-- PRELOAD_REFERENCE (R20, R172). -/
def execPreloadReference (index : Byte) (value : Word) (s : State) : Host.Outcome State Fault Refusal :=
  .next (s.takeCommand 0x25 (index :: leBytes 4 value.toNat) (preloadReferenceAct index value))

def forgetReferenceAct (index : Byte) (s : State) : State × Response :=
  onOccupied index s fun i e => (s.setEntry i { e with reference := none }, Response.okEmpty)

/-- FORGET_REFERENCE (R20, R172). -/
def execForgetReference (index : Byte) (s : State) : Host.Outcome State Fault Refusal :=
  .next (s.takeCommand 0x26 [index] (forgetReferenceAct index))

/-! ## CLEAR_STICKY (R9) -/

def clearStickyAct (index flags : Byte) (s : State) : State × Response :=
  if flags.getLsbD 6 || flags.getLsbD 7 then (s, Response.refusal .badArg)
  else
    onOccupied index s fun i e =>
      (s.setEntry i { e with sticky := e.sticky &&& ~~~(flags.setWidth 6) }, Response.okEmpty)

/-- CLEAR_STICKY (R9, R172). -/
def execClearSticky (index flags : Byte) (s : State) : Host.Outcome State Fault Refusal :=
  .next (s.takeCommand 0x27 [index, flags] (clearStickyAct index flags))

/-! ## RELEASE_ENTRY (R15) -/

/-- A LATCHED entry returned to service (R15). -/
def Entry.release (e : Entry) (m : Mode) : Entry :=
  { e with state := .ready, violations := 0, mark := none }.freshDeadline m

def releaseEntryAct (index : Byte) (s : State) : State × Response :=
  match entryOf index with
  | none => (s, Response.refusal .badArg)
  | some i =>
    if (s.entry i).state = .latched then (s.setEntry i ((s.entry i).release s.mode), Response.okEmpty)
    else (s, Response.refusal .state)

/-- RELEASE_ENTRY (R15, R172). -/
def execReleaseEntry (index : Byte) (s : State) : Host.Outcome State Fault Refusal :=
  .next (s.takeCommand 0x28 [index] (releaseEntryAct index))

end Sys2Proof.Machine
end

