-- ==== Sys2Proof/Machine/FarPort.lean ====
section
/-! DEFINITION. The far port: the arbiter, the six grants, and the dispatch of memory answers (chapter 5, with the
postings and ring events of chapter 7). -/

namespace Sys2Proof.Machine

/-! ## Candidates (R94) -/

/-- What a grant goes to. -/
inductive Grant where
  | commitWrite
  | controller
  | fallback (i : Fin 48)
  | commitStart (g : Fin 8)
  | posting
  deriving DecidableEq, Repr

/-- The controller candidate: the oldest slot in WAIT-ISSUE. -/
def State.controllerCandidate (s : State) : Option Slot := s.slots.find? fun x => decide (x.state = .waitIssue)

/-- The internal candidates with their order marks: the pending fallbacks in index order, then the head of the
commit-wait list. A commit head carries a mark (R49; notes/assumptions/18.md). -/
def State.internalCandidates (s : State) : List (Nat × Grant) :=
  ((List.finRange 48).filterMap fun i => (s.entry i).mark.map fun m => (m, Grant.fallback i))
    ++ (match s.commitWait with
        | g :: _ => ((s.group g).mark.map fun m => (m, Grant.commitStart g)).toList
        | [] => [])

/-- An acceptance number is at least an order mark: the difference taken modulo 2^32 lies from 0 to 2^31 − 1 (R95). -/
def numberAtLeast (number mark : Word) : Bool := decide ((number - mark).toNat < 2 ^ 31)

/-- An internal candidate is placed before the controller candidate (R95): there is none, or its number is at least the
mark, or the acceptance count has run 2^31 or more past the mark. -/
def State.placedBefore (s : State) (mark : Nat) : Bool :=
  match s.controllerCandidate with
  | none => true
  | some x => numberAtLeast x.number (BitVec.ofNat 32 mark) || decide (mark + 2 ^ 31 ≤ s.accepted)

/-- The first of the candidates: the smaller order mark first, and of equal marks the one that stands first in the list,
so a fallback before the commit and the lower entry index before the higher (R97). Marks are numbers of acceptances
since reset, so the earlier event has the smaller mark whatever the count's wrap (notes/assumptions/11.md). -/
def firstByMark : List (Nat × Grant) → Option (Nat × Grant)
  | [] => none
  | c :: cs =>
    match firstByMark cs with
    | none => some c
    | some d => if c.1 ≤ d.1 then some c else some d

/-- The Report Unit offers a posting step: the ring RUNNING with a record waiting, and either no posting in flight
(step 1) or a write offered by the answer before (R134). -/
def State.postingOffered (s : State) : Bool :=
  decide (s.ringState = .running) && !s.records.isEmpty &&
    (match s.posting with
     | .idle => true
     | .offered _ => true
     | .reading => false
     | .writing _ => false)

/-- The choice when no commit run is in progress (R97): the internal candidates placed first, then the controller's, then
the posting's. -/
def State.openChoice (s : State) : Option Grant :=
  match firstByMark (s.internalCandidates.filter fun c => s.placedBefore c.1) with
  | some c => some c.2
  | none =>
    if s.controllerCandidate.isSome then some .controller
    else if s.postingOffered then some .posting
    else none

/-- A grant may be made: the issue log has a place, nothing drains, and the checker is not in device reset (R94, R105). -/
def State.grantOpen (s : State) : Bool :=
  !s.inReset && decide (s.issueLog.length < Config.issueLogPlaces) && decide (s.drain = 0)

/-- What the far arbiter grants at an event at which the memory is ready (R94, R96, R97). -/
def State.grant (s : State) : Option Grant :=
  if s.grantOpen then
    match s.commitBuffer with
    | _ :: _ => some .commitWrite
    | [] => s.openChoice
  else none

/-! ## Grants -/

/-- The oldest WAIT-ISSUE slot made WAIT-MEMORY (R80). -/
def markIssued : List Slot → List Slot
  | [] => []
  | x :: xs => if x.state = .waitIssue then { x with state := .waitMemory } :: xs else x :: markIssued xs

/-- The far-port request of a slot: data 0 for a read (R89). -/
def slotRequest (x : Slot) : FpRequest :=
  { op := x.op, width := Width.ofCode x.wcode, address := x.address,
    data := match x.op with
      | .read => 0
      | .write => x.data }

/-- ISSUE: the controller candidate granted (R80). -/
def State.issueSlot (s : State) : State :=
  match s.grant, s.controllerCandidate with
  | some .controller, some x =>
    { s with slots := markIssued s.slots }.issueRequest (.tqSlot x.number) (slotRequest x)
  | _, _ => s

def execIssue (s : State) : Host.Outcome State Fault Refusal := .next s.issueSlot

/-- The far-port request of a commit member write (R62). -/
def commitRequest (w : CommitWrite) : FpRequest :=
  { op := .write, width := w.width, address := w.address, data := valueData w.width w.value }

/-- The next write of the commit buffer issued, leaving the buffer (R62). -/
def State.issueCommitWrite (s : State) : State :=
  match s.commitBuffer with
  | w :: ws => { s with commitBuffer := ws }.issueRequest (.commitMember w.group w.entry) (commitRequest w)
  | [] => s

/-- The member writes of a group's commit, in ascending address order (R61). -/
def State.commitWrites (s : State) (g : Fin 8) : List CommitWrite :=
  (s.members g).filterMap fun i =>
    (s.stagedValue i).map fun v =>
      { group := g, entry := i, address := (s.entry i).address, width := (s.entry i).width, value := v }

/-- A member's reference set to its committed value (R61). -/
def State.commitReference (s : State) (g : Fin 8) (i : Fin 48) (e : Entry) : Entry :=
  if s.isMember g i then
    match s.stagedValue i with
    | some v => { e with reference := some v }
    | none => e
  else e

/-- The COMMIT record, when the group reports its commits (R61, R70). -/
def State.reportCommit (s : State) (g : Fin 8) (writes : Nat) : State :=
  if (s.group g).reportCommit then s.createRecord (.commit writes) (.group g) (s.lowestAddress g) 0 else s

/-- The five effects of a commit start, before its first write is issued (R61). -/
def State.beginCommit (s : State) (g : Fin 8) : State :=
  let writes := s.commitWrites g
  let s1 := (s.mapEntries (s.commitReference g)).clearStaged g
  let s2 := s1.setGroup g { s1.group g with state := .idle, remaining := none, mark := none }
  { s2 with commitBuffer := writes, commitWait := s2.commitWait.filter fun h => decide (h ≠ g) }.reportCommit g
    writes.length

/-- COMMIT_START: the commit candidate granted; the first member write is issued in the same grant (R61, R98). -/
def State.commitStart (s : State) : State :=
  match s.grant with
  | some (.commitStart g) => (s.beginCommit g).issueCommitWrite
  | _ => s

def execCommitStart (s : State) : Host.Outcome State Fault Refusal := .next s.commitStart

/-- COMMIT_MEMBER_WRITE: the next write of the run in progress (R62, R96). -/
def State.commitMemberWrite (s : State) : State :=
  match s.grant with
  | some .commitWrite => s.issueCommitWrite
  | _ => s

def execCommitMemberWrite (s : State) : Host.Outcome State Fault Refusal := .next s.commitMemberWrite

/-- A fallback write issued: its reference set and its mark cleared in the same event (R99, R117). An entry with a mark
carries a fallback value (R116, R121; notes/assumptions/18.md). -/
def State.issueFallbackOf (s : State) (i : Fin 48) : State :=
  let e := s.entry i
  match e.fallback with
  | some v =>
    (s.setEntry i { e with reference := some v, mark := none }).issueRequest (.fallback i)
      { op := .write, width := e.width, address := e.address, data := valueData e.width v }
  | none => s

/-- FALLBACK_ISSUE: the pending fallback that the arbiter grants (R99, R117). -/
def State.issueFallback (s : State) : State :=
  match s.grant with
  | some (.fallback i) => s.issueFallbackOf i
  | _ => s

def execFallbackIssue (s : State) : Host.Outcome State Fault Refusal := .next s.issueFallback

/-- The address of a word of the head slot (R132). -/
def State.headWord (s : State) (word : Nat) : Word :=
  s.ringBase + BitVec.ofNat 32 (16 * s.head) + BitVec.ofNat 32 (4 * word)

/-- OWNERSHIP_READ: step 1 of a posting (R134). -/
def State.ownershipRead (s : State) : State :=
  match s.grant, s.posting with
  | some .posting, .idle =>
    { s with posting := .reading }.issueRequest (.ringRead s.head)
      { op := .read, width := .w4, address := s.headWord 0, data := 0 }
  | _, _ => s

def execOwnershipRead (s : State) : Host.Outcome State Fault Refusal := .next s.ownershipRead

/-- RING_RECORD_WRITE: the offered word of the head record written into the head slot (R134). -/
def State.ringRecordWrite (s : State) : State :=
  match s.grant, s.posting, s.records with
  | some .posting, .offered w, r :: _ =>
    { s with posting := .writing w }.issueRequest (.ringWrite s.head w)
      { op := .write, width := .w4, address := s.headWord w.val, data := r.word w }
  | _, _, _ => s

def execRingRecordWrite (s : State) : Host.Outcome State Fault Refusal := .next s.ringRecordWrite

/-! ## Answers to the controller's requests (R81 to R83) -/

/-- The slot of an acceptance number answered (R78). -/
def answerSlot (number : Word) (status : AnswerStatus) (readData : Word) (x : Slot) : Slot :=
  if x.number = number ∧ x.state = .waitMemory then { x with state := .answered status readData } else x

/-- The read data of a read answered OK: the memory's low bytes, with any overlay laid over (R82). -/
def readAnswer (x : Slot) (memory : Word) : Word :=
  match x.disposition with
  | .forwardOverlay overlay => applyOverlay memory overlay
  | .forward => keepLow (Width.ofCode x.wcode) memory
  | .answerLocal => keepLow (Width.ofCode x.wcode) memory

/-- The subject of a controller request's MEMERR record: its covered index (R83). -/
def slotSubject (x : Slot) : Subject :=
  match x.covered with
  | some i => .entry i
  | none => .nothing

/-- A completed write hands back the head slot: it covers the ownership byte and clears its top bit (R140). -/
def State.releasesHead (s : State) (r : FpRequest) : Bool :=
  let own := s.ringBase.toNat + 16 * s.head + 3
  rangesMeet r.address.toNat r.width.bytes own 1 && !(byteAt r.data (own - r.address.toNat)).getLsbD 7

/-- A controller write answered OK is offered to the Report Unit: a SUSPENDED ring whose head slot it hands back becomes
RUNNING, with a fresh ownership read offered (R81, R140). -/
def State.offerWrite (s : State) (r : FpRequest) : State :=
  if s.ringState = .suspended ∧ s.releasesHead r = true then { s with ringState := .running, posting := .idle } else s

/-- The answer to a Transit Queue slot's request (R81, R82, R83). -/
def State.answerTqSlot (s : State) (number : Word) (r : FpRequest) (status : MemStatus) (data : Word) : State :=
  match s.slots.find? fun x => decide (x.number = number) && decide (x.state = .waitMemory) with
  | none => s
  | some x =>
    match status, r.op with
    | .ok, .write => { s with slots := s.slots.map (answerSlot number .done 0) }.offerWrite r
    | .ok, .read => { s with slots := s.slots.map (answerSlot number .done (readAnswer x data)) }
    | .error, .write =>
      { s with slots := s.slots.map (answerSlot number .fault 0) }.memErr .controllerWrite (slotSubject x) r.address
        (keepLow r.width r.data)
    | .error, .read =>
      { s with slots := s.slots.map (answerSlot number .fault 0) }.memErr .controllerRead (slotSubject x) r.address 0

/-! ## Answers to the checker's own requests -/

/-- The answer to a commit member write: the record carries the address and value as issued (R63, R91). -/
def State.answerCommit (s : State) (i : Fin 48) (r : FpRequest) (status : MemStatus) : State :=
  match status with
  | .ok => s
  | .error => s.memErr .commit (.entry i) r.address r.data

/-- The answer to a fallback write: the record carries the address and value as issued (R118, R91). -/
def State.answerFallback (s : State) (i : Fin 48) (r : FpRequest) (status : MemStatus) : State :=
  match status with
  | .ok => s
  | .error => s.memErr .fallback (.entry i) r.address r.data

/-- A ring access answered ERROR: the posting ends and the ring stops (R135, R136). -/
def State.stopRing (s : State) : State :=
  { s with ringState := .stopped, posting := .idle }.setCause (causeFault ||| causeRing)

/-- The answer to an ownership read (R135). -/
def State.answerRingRead (s : State) (status : MemStatus) (data : Word) : State :=
  match status with
  | .error => s.stopRing
  | .ok =>
    if data.getLsbD 31 then { s with ringState := .suspended, posting := .idle }.setCause causeRing
    else { s with posting := .offered 1 }

/-- The LOSS record created when the queue becomes empty with records lost (R128). -/
def State.reportLoss (s : State) : State :=
  if s.records.isEmpty && decide (s.lost ≠ 0) then
    { s.createRecord .loss .nothing 0 (BitVec.ofNat 32 s.lost) with lost := 0 }
  else s

/-- A posting completed: the head record leaves, the head advances, RECORD is set, and a LOSS record may follow
(R136). -/
def State.completePosting (s : State) : State :=
  ({ s with records := s.records.tail, head := (s.head + 1) % s.ringSlots, posting := .idle }.setCause
    causeRecord).reportLoss

/-- The answer to a record write: the next word offered in the order 1, 2, 3, 0, or the posting completed (R136). -/
def State.answerRingWrite (s : State) (word : Fin 4) (status : MemStatus) : State :=
  match status with
  | .error => s.stopRing
  | .ok =>
    match word with
    | 1 => { s with posting := .offered 2 }
    | 2 => { s with posting := .offered 3 }
    | 3 => { s with posting := .offered 0 }
    | 0 => s.completePosting

/-! ## The dispatch (R92, R93, R106) -/

/-- An answer given while the issue log is empty: drained, or unexpected; FAULT is set only outside device reset. -/
def State.discardAnswer (s : State) : State :=
  let s1 := { s with drain := s.drain - 1 }
  if s.inReset then s1 else s1.setCause causeFault

/-- The answer handed to the owner of its origin (R92). -/
def State.dispatch (s : State) (e : LogEntry) (status : MemStatus) (data : Word) : State :=
  match e.origin with
  | .tqSlot number => s.answerTqSlot number e.request status data
  | .commitMember _ i => s.answerCommit i e.request status
  | .fallback i => s.answerFallback i e.request status
  | .ringRead _ => s.answerRingRead status data
  | .ringWrite _ word => s.answerRingWrite word status

/-- MEMORY_ANSWER: the answer matched to the oldest entry of the issue log, which is removed, and handed to its owner; or
discarded while the log is empty (R91, R92, R93, R106). -/
def State.memoryAnswer (s : State) (status : MemStatus) (data : Word) : State :=
  match s.issueLog with
  | e :: rest => { s with issueLog := rest }.dispatch e status data
  | [] => s.discardAnswer

def execMemoryAnswer (status : MemStatus) (data : Word) (s : State) : Host.Outcome State Fault Refusal :=
  .next (s.memoryAnswer status data)

end Sys2Proof.Machine
end

