-- ==== Sys2Proof/Machine/Freshness.lean ====
section
/-! DEFINITION. The Freshness Timer: the time base, the tick and the expiries (chapter 6, R56), and the passing of one
CLK period. -/

namespace Sys2Proof.Machine

/-- One tick taken off a countdown; none below 0 (R110). -/
def countDown (n : Option Nat) : Option Nat := n.map fun k => k - 1

/-- The countdown of an entry at a tick (R110). -/
def Entry.tickDown (e : Entry) (m : Mode) : Entry :=
  if e.deadlineRuns m then { e with remaining := countDown e.remaining } else e

/-- The countdown of a group at a tick (R56, R110). -/
def Group.tickDown (x : Group) : Group :=
  if x.state = .opened then { x with remaining := countDown x.remaining } else x

/-- An entry at its expiry: STALE with no countdown, STALE flagged, and the fallback-pending mark set with the acceptance
count where `pend` (R114, R116). -/
def Entry.expire (e : Entry) (pend : Bool) (accepted : Nat) : Entry :=
  { e with
    state := .stale
    remaining := none
    sticky := e.sticky ||| stickyStale
    mark := if pend then some accepted else e.mark }

/-- The expiry sets the fallback-pending mark: the mode is ENFORCE and a fallback value is present (R114). -/
def State.pendsFallback (s : State) (e : Entry) : Bool := decide (s.mode = .enforce) && e.fallback.isSome

/-- The value of a STALE record: the fallback value when the expiry set the mark, otherwise 0 (R115). -/
def State.staleValue (s : State) (e : Entry) : Word :=
  if s.pendsFallback e then valueWord (e.fallback.getD 0) else 0

/-- The expiry of an entry whose running countdown stands at 0 (R114). -/
def State.expireEntry (s : State) (i : Fin 48) : State :=
  let e := s.entry i
  if e.deadlineRuns s.mode = true ∧ e.remaining = some 0 then
    ((s.setEntry i (e.expire (s.pendsFallback e) s.accepted)).createRecord (.stale (s.pendsFallback e)) (.entry i)
      e.address (s.staleValue e)).setCause causeStale
  else s

/-- The timeout of an OPEN group whose countdown stands at 0 (R56). -/
def State.expireGroup (s : State) (g : Fin 8) : State :=
  if (s.group g).state = .opened ∧ (s.group g).remaining = some 0 then s.abandon g .timeout else s

/-- The countdowns of a tick: the counter incremented, a new interval begun at the tick length that stands, and every
running countdown decremented (R108, R109, R110). -/
def State.tickCountdowns (s : State) : State :=
  { s with
    tickCounter := s.tickCounter + 1
    intervalLength := s.tickLength
    clkCount := 0
    usCount := 0
    entries := tabulate fun i : Fin 48 => (s.entry i).tickDown s.mode
    groups := tabulate fun g : Fin 8 => (s.group g).tickDown }

/-- A tick: the countdowns, then the expiries of those that reached 0, entries in ascending index and then groups in
ascending number (R110). -/
def State.tickEvent (s : State) : State :=
  let s1 := (List.finRange 48).foldl (fun t i => t.expireEntry i) s.tickCountdowns
  (List.finRange 8).foldl (fun t g => t.expireGroup g) s1

/-- TICK; there is none in device reset (R108, R110). -/
def State.tick (s : State) : State := if s.inReset then s else s.tickEvent

def execTick (s : State) : Host.Outcome State Fault Refusal := .next s.tick

/-- DEADLINE_EXPIRY of an entry whose deadline runs: where its count stands at 1 the event is the tick that brings it to
0, in which the expiry is taken; where it stands at 0 the expiry alone is left. In every other case no deadline reaches 0
and nothing happens (R110, R114; notes/assumptions/5.md). -/
def State.deadlineExpiry (s : State) (i : Fin 48) : State :=
  if s.inReset = false ∧ (s.entry i).deadlineRuns s.mode = true then
    match (s.entry i).remaining with
    | some 0 => s.expireEntry i
    | some 1 => s.tick
    | _ => s
  else s

def execDeadlineExpiry (index : Nat) (s : State) : Host.Outcome State Fault Refusal :=
  .next (if h : index < 48 then s.deadlineExpiry ⟨index, h⟩ else s)

/-- TIMEOUT_EXPIRY of an OPEN group, in the same manner (R56, R110; notes/assumptions/5.md). -/
def State.timeoutExpiry (s : State) (g : Fin 8) : State :=
  if s.inReset = false ∧ (s.group g).state = .opened then
    match (s.group g).remaining with
    | some 0 => s.expireGroup g
    | some 1 => s.tick
    | _ => s
  else s

def execTimeoutExpiry (group : Nat) (s : State) : Host.Outcome State Fault Refusal :=
  .next (match groupOf group with
    | some g => s.timeoutExpiry g
    | none => s)

/-- One CLK period with no command: 16 periods are a microsecond, and the interval in progress ends in a tick after its
length in microseconds (R108, R186; notes/assumptions/1.md). -/
def State.clockPeriod (s : State) : State :=
  if s.inReset then s
  else if s.clkCount + 1 < Config.clkPerMicrosecond then { s with clkCount := s.clkCount + 1 }
  else if s.usCount + 1 < s.intervalLength then { s with clkCount := 0, usCount := s.usCount + 1 }
  else s.tickEvent

end Sys2Proof.Machine
end

