-- ==== Sys2Proof/Machine/GroupCommands.lean ====
section
/-! DEFINITION. CONFIG_GROUP and READ_GROUP (section 3.4, R71, R166, R174). -/

namespace Sys2Proof.Machine

/-- Bit 1 of the flags byte: enable (1) or disable (0) (R182). -/
def groupEnable (p : GroupPayload) : Bool := p.flags.getLsbD 1

/-- A group record with the timeout, the report-commit flag (bit 0) and the enable choice of a payload (R58, R59). -/
def configuredGroup (p : GroupPayload) (x : Group) : Group :=
  { x with enabled := groupEnable p, timeout := p.timeout.toNat, reportCommit := p.flags.getLsbD 0 }

/-- The group a CONFIG_GROUP names: none for a number outside 1 to 8 or a timeout of 0 (R58). -/
def configTarget (p : GroupPayload) : Option (Fin 8) := if p.timeout = 0 then none else groupOf p.group.toNat

def configGroupEnableAct (p : GroupPayload) (s : State) : State × Response :=
  match configTarget p with
  | none => (s, Response.refusal .badArg)
  | some g =>
    if (s.members g).length < 2 ∨ 8 < (s.members g).length then (s, Response.refusal .badArg)
    else (s.setGroup g (configuredGroup p (s.group g)), Response.okEmpty)

/-- CONFIG_GROUP with enable (R58, R174). -/
def execConfigGroupEnable (p : GroupPayload) (s : State) : Host.Outcome State Fault Refusal :=
  .next (if groupEnable p then s.takeCommand 0x30 (groupBytes p) (configGroupEnableAct p) else s)

/-- An OPEN round abandoned with cause DISABLE before the disable; none in the other states (R59). -/
def State.endRound (s : State) (g : Fin 8) : State :=
  if (s.group g).state = .opened then s.abandon g .disable else s

def configGroupDisableAct (p : GroupPayload) (s : State) : State × Response :=
  match configTarget p with
  | none => (s, Response.refusal .badArg)
  | some g =>
    if (s.group g).state = .commitWait then (s, Response.refusal .busy)
    else
      let t := s.endRound g
      (t.setGroup g (configuredGroup p (t.group g)), Response.okEmpty)

/-- CONFIG_GROUP with disable (R59, R174). -/
def execConfigGroupDisable (p : GroupPayload) (s : State) : Host.Outcome State Fault Refusal :=
  .next (if groupEnable p then s else s.takeCommand 0x30 (groupBytes p) (configGroupDisableAct p))

/-! ## READ_GROUP -/

/-- The indexes of the first eight members, 0xFF in each unused place (R174). -/
def memberBytes (members : List (Fin 48)) : List Byte :=
  (((members.take 8).map fun i : Fin 48 => (BitVec.ofNat 8 i.val : Byte)) ++ List.replicate 8 0xFF).take 8

/-- The position in the commit-wait list, 1 for the head; 0 when not in it (R71). -/
def State.listPosition (s : State) (g : Fin 8) : Nat :=
  match s.commitWait.findIdx? fun h => decide (h = g) with
  | some k => k + 1
  | none => 0

/-- The 17 bytes of READ_GROUP (R174, R183). -/
def State.groupReport (s : State) (g : Fin 8) : List Byte :=
  let x := s.group g
  [BitVec.ofNat 8 (bitsNat [x.reportCommit, x.enabled, x.remaining.isSome]), BitVec.ofNat 8 x.state.code]
    ++ leBytes 2 x.timeout ++ [BitVec.ofNat 8 (s.members g).length] ++ memberBytes (s.members g)
    ++ [s.stagedMask g] ++ leBytes 2 (x.remaining.getD 0) ++ [BitVec.ofNat 8 (s.listPosition g)]

def readGroupAct (group : Byte) (s : State) : State × Response :=
  match groupOf group.toNat with
  | none => (s, Response.refusal .badArg)
  | some g => (s, Response.okWith (s.groupReport g))

/-- READ_GROUP (R71, R174). -/
def execReadGroup (group : Byte) (s : State) : Host.Outcome State Fault Refusal :=
  .next (s.takeCommand 0x31 [group] (readGroupAct group))

end Sys2Proof.Machine
end

