-- ==== Sys2Proof/Machine/CheckLogic.lean ====
section
/-! DEFINITION. The Check Logic: the class of a request and its judgement at acceptance (chapter 2), with the staging
of group members (chapter 3). -/

namespace Sys2Proof.Machine

/-! ## Classes (R23, R26) -/

/-- What a request concerns: its class with the entries it covers. -/
inductive Target where
  | malformed
  | exact (i : Fin 48)
  | partialTo (i : Fin 48)
  | straddling (covered : List (Fin 48))
  | unwatched
  deriving DecidableEq, Repr

def requestWidth (r : NpRequest) : Width := Width.ofCode r.wcode

/-- Width code 3, or an address that is not a multiple of the width (R26). -/
def malformedRequest (r : NpRequest) : Bool :=
  decide (r.wcode = 3) || decide (r.address.toNat % (requestWidth r).bytes ≠ 0)

/-- The occupied entries that share a byte with the run, in ascending index (R23). -/
def State.coveredEntries (s : State) (a n : Nat) : List (Fin 48) :=
  (List.finRange 48).filter fun i => (s.entry i).occupied && (s.entry i).meets a n

/-- The class of a request that covers one entry (R23). -/
def oneCovered (r : NpRequest) (i : Fin 48) (e : Entry) : Target :=
  if r.address = e.address ∧ requestWidth r = e.width then .exact i
  else if rangeInside r.address.toNat (requestWidth r).bytes e.address.toNat e.width.bytes
      && decide ((requestWidth r).bytes < e.width.bytes) then .partialTo i
  else .straddling [i]

/-- The class of a request against the table as it stands (R23). -/
def State.target (s : State) (r : NpRequest) : Target :=
  if malformedRequest r then .malformed
  else
    match s.coveredEntries r.address.toNat (requestWidth r).bytes with
    | [] => .unwatched
    | [i] => oneCovered r i (s.entry i)
    | i :: j :: rest => .straddling (i :: j :: rest)

/-- The class a slot records (R77). -/
def Target.cls : Target → AddrClass
  | .malformed => .malformed
  | .exact _ => .exact
  | .partialTo _ => .partialTo
  | .straddling _ => .straddling
  | .unwatched => .unwatched

/-- The covered index a slot records: the lowest for a straddle (R77). -/
def Target.covered : Target → Option (Fin 48)
  | .exact i => some i
  | .partialTo i => some i
  | .straddling is => is.head?
  | .malformed => none
  | .unwatched => none

/-- What a judgement fixes for the slot (R25). -/
inductive Verdict where
  /-- FORWARD with the width code, address and data to be issued. -/
  | forward (wcode : BitVec 2) (address data : Word)
  /-- FORWARD-OVERLAY with the captured bytes. -/
  | overlay (bytes : List (Option Byte))
  /-- LOCAL with its answer. -/
  | answer (status : AnswerStatus) (readData : Word)
  deriving DecidableEq, Repr

/-- FORWARD as presented. -/
def forwardPresented (r : NpRequest) : Verdict := .forward r.wcode r.address r.data

/-! ## Staging (R52 to R54) -/

/-- An admitted write to a member of an enabled group: its value staged; a round opened, continued or completed by
whether every member now holds a staged value. -/
def State.stage (s : State) (g : Fin 8) (i : Fin 48) (v : Int) : State :=
  let x := s.group g
  let s1 := s.setStaged i (some v)
  match x.state with
  | .commitWait => s1
  | .opened =>
    if s1.allStaged g then
      { s1.setGroup g { x with state := .commitWait, remaining := none, mark := some s1.accepted } with
        commitWait := s1.commitWait ++ [g] }
    else s1
  | .idle =>
    if s1.allStaged g then
      { s1.setGroup g { x with state := .commitWait, remaining := none, mark := some s1.accepted } with
        commitWait := s1.commitWait ++ [g] }
    else s1.setGroup g { x with state := .opened, remaining := some x.timeout }

/-! ## Violations and trips (R31, R32, R43, R44) -/

/-- One violation counted against an entry. -/
def State.countAgainst (s : State) (flags : BitVec 6) (i : Fin 48) : State :=
  s.setEntry i ((s.entry i).countViolation flags)

/-- The trip test of a counted entry: if met, the entry LATCHED, a TRIP record with the value of the write's own record,
and the TRIP cause (R32, R47). -/
def State.tripIfDue (s : State) (value : Word) (i : Fin 48) : State :=
  let e := s.entry i
  if e.tripTest then
    ((s.setEntry i e.latch).createRecord (.trip e.violations) (.entry i) e.address value).setCause causeTrip
  else s

/-- A violation of one entry: counted, recorded, LIMIT set, and the trip test made (R31, R32, R43). -/
def State.violate (s : State) (i : Fin 48) (flags : BitVec 6) (detail : Detail) (address value : Word) : State :=
  let s1 := ((s.countAgainst flags i).createRecord detail (.entry i) address value).setCause causeLimit
  s1.tripIfDue value i

/-! ## The clamp computation (R38, R39) -/

/-- The lower limit of the clamp: the low limit, else the type minimum. -/
def Entry.clampLow (e : Entry) : Int := e.low.getD (e.width.typeMin e.signed)

/-- The upper limit of the clamp: the high limit, else the type maximum. -/
def Entry.clampHigh (e : Entry) : Int := e.high.getD (e.width.typeMax e.signed)

/-- The lower end of the step window, cut to the type range. -/
def Entry.windowLow (e : Entry) : Int :=
  match e.reference with
  | some r => if e.step = 0 then e.width.typeMin e.signed else max (e.width.typeMin e.signed) (r - e.step)
  | none => e.width.typeMin e.signed

/-- The upper end of the step window, cut to the type range. -/
def Entry.windowHigh (e : Entry) : Int :=
  match e.reference with
  | some r => if e.step = 0 then e.width.typeMax e.signed else min (e.width.typeMax e.signed) (r + e.step)
  | none => e.width.typeMax e.signed

/-- The clamped value: the point of the target nearest the value, or, where the target is empty, the end of the step
window nearest the limits. -/
def Entry.clamped (e : Entry) (v : Int) : Int :=
  let lo := max e.clampLow e.windowLow
  let hi := min e.clampHigh e.windowHigh
  if lo ≤ hi then max lo (min hi v)
  else if e.windowHigh < e.clampLow then e.windowHigh
  else e.windowLow

/-! ## Exact and merged writes (R29 to R37, R41, R42) -/

/-- An admitted write goes on: staged for a member of an enabled group, else forwarded, the entry updated. `own` says
that the value is the write's own, neither clamped nor merged (R35, R36, R41, R42). -/
def State.admitWrite (s : State) (r : NpRequest) (i : Fin 48) (v : Int) (own : Bool) : State × Verdict :=
  let e := s.entry i
  match s.enabledGroup e with
  | some g => (s.stage g i v, .answer .done 0)
  | none =>
    (s.setEntry i (e.admitValue v),
      if s.mode = .enforce ∧ own = false then .forward e.width.code e.address (valueData e.width v)
      else forwardPresented r)

/-- The action that a judgement applies: the entry's in ENFORCE, PASS in MONITOR (R33, R34). -/
def State.appliedAction (s : State) (e : Entry) : Action := if s.mode = .enforce then e.action else .pass

/-- The judgement of a whole value from the checks onward (R30 to R36). -/
def State.judgeValue (s : State) (r : NpRequest) (i : Fin 48) (v : Int) (own : Bool) : State × Verdict :=
  let e := s.entry i
  let f := e.checks v
  if f.any then
    let s1 := s.violate i f.sticky (.limit f.low f.high f.step (s.appliedAction e)) e.address (valueWord v)
    match s.appliedAction e with
    | .pass => s1.admitWrite r i v own
    | .clamp => s1.admitWrite r i (e.clamped v) false
    | .hold => (s1, .answer .done 0)
    | .deny => (s1, .answer .denied 0)
  else s.admitWrite r i v own

/-- The latched check: in ENFORCE a write to a LATCHED entry is refused (R29). -/
def State.latchedCheck (s : State) (i : Fin 48) : Bool :=
  decide (s.mode = .enforce) && decide ((s.entry i).state = .latched)

/-- The refusal of the latched check: only the latched-denial counter changes (R29). -/
def State.denyLatched (s : State) (i : Fin 48) : State × Verdict :=
  (s.setEntry i (s.entry i).countDenial, .answer .denied 0)

/-- An exact write in MONITOR or ENFORCE. -/
def State.judgeExact (s : State) (r : NpRequest) (i : Fin 48) : State × Verdict :=
  if s.latchedCheck i then s.denyLatched i
  else s.judgeValue r i (readValue (s.entry i).width (s.entry i).signed r.data) true

/-! ## Partial writes (R40 to R43) -/

/-- The base of a partial write: the staged value of a member of an enabled group, else the reference (R40). -/
def State.partialBase (s : State) (i : Fin 48) : Option Int :=
  match s.enabledGroup (s.entry i), s.stagedValue i with
  | some _, some v => some v
  | _, _ => (s.entry i).reference

/-- A base with the written bytes replaced, read in the entry's type (R40). -/
def mergedValue (e : Entry) (r : NpRequest) (base : Int) : Int :=
  readValue e.width e.signed
    (mergeBytes (valueWord base) (r.address.toNat - e.address.toNat) (requestWidth r) r.data)

/-- A partial violation (R43). -/
def State.partialViolation (s : State) (r : NpRequest) (i : Fin 48) : State × Verdict :=
  let enforce := decide (s.mode = .enforce)
  (s.violate i stickyPartial (.partialWrite (if enforce then .deny else .pass)) r.address
      (keepLow (requestWidth r) r.data),
    if enforce then .answer .denied 0 else forwardPresented r)

/-- A partial write in MONITOR or ENFORCE. -/
def State.judgePartial (s : State) (r : NpRequest) (i : Fin 48) : State × Verdict :=
  if s.latchedCheck i then s.denyLatched i
  else
    match (s.entry i).mergePartial, s.partialBase i with
    | true, some base => s.judgeValue r i (mergedValue (s.entry i) r base) false
    | _, _ => s.partialViolation r i

/-! ## Straddling writes (R44, R45) -/

/-- The subject a straddle's record names: the lowest covered index (R44). -/
def coveredSubject (covered : List (Fin 48)) : Subject :=
  match covered with
  | i :: _ => .entry i
  | [] => .nothing

/-- A straddling write in MONITOR or ENFORCE: every covered entry counted and flagged, one STRADDLE record, then the trip
test of each covered entry in ascending index. -/
def State.judgeStraddle (s : State) (r : NpRequest) (covered : List (Fin 48)) : State × Verdict :=
  let enforce := decide (s.mode = .enforce)
  let s1 := covered.foldl (fun t i => t.countAgainst stickyStraddle i) s
  let s2 := (s1.createRecord (.straddle covered.length (if enforce then .deny else .pass)) (coveredSubject covered)
    r.address r.data).setCause causeLimit
  (covered.foldl (fun t i => t.tripIfDue r.data i) s2, if enforce then .answer .denied 0 else forwardPresented r)

/-! ## BYPASS (R27, R28) -/

/-- The entry is a member of a group in the commit-wait list. -/
def State.inCommitWait (s : State) (i : Fin 48) : Bool :=
  match (s.entry i).group with
  | some g => decide (g ∈ s.commitWait)
  | none => false

/-- A well-formed write in BYPASS: forwarded as presented, or taken unchecked into the staged value of a member of a
group in the commit-wait list. -/
def State.judgeBypass (s : State) (r : NpRequest) : Target → State × Verdict
  | .exact i =>
    if s.inCommitWait i then
      (s.setStaged i (some (readValue (s.entry i).width (s.entry i).signed r.data)), .answer .done 0)
    else (s, forwardPresented r)
  | .partialTo i =>
    if s.inCommitWait i then
      (s.setStaged i ((s.stagedValue i).map (mergedValue (s.entry i) r)), .answer .done 0)
    else (s, forwardPresented r)
  | .straddling _ => (s, forwardPresented r)
  | .unwatched => (s, forwardPresented r)
  | .malformed => (s, forwardPresented r)

/-! ## Reads (R65) -/

/-- The staged byte that stands for an address: a byte of a member of an enabled group that holds a staged value. -/
def State.stagedByte (s : State) (a : Nat) : Option Byte :=
  (List.finRange 48).findSome? fun i =>
    let e := s.entry i
    match s.stagedValue i, s.enabledGroup e with
    | some v, some _ =>
      if e.occupied && e.meets a 1 then some (byteAt (valueWord v) (a - e.address.toNat)) else none
    | _, _ => none

/-- The staged bytes of a read, by byte position. -/
def State.readOverlay (s : State) (r : NpRequest) : List (Option Byte) :=
  (List.range (requestWidth r).bytes).map fun j => s.stagedByte (r.address.toNat + j)

/-- The disposition of a well-formed read, in any mode (R65). -/
def State.judgeRead (s : State) (r : NpRequest) : Verdict :=
  let overlay := s.readOverlay r
  if overlay.all Option.isSome then .answer .done (applyOverlay 0 overlay)
  else if overlay.any Option.isSome then .overlay overlay
  else .forward r.wcode r.address 0

/-! ## The judgement (R25) -/

/-- The data a request is described by: 0 for a read (R73). -/
def requestData (r : NpRequest) : Word :=
  match r.op with
  | .read => 0
  | .write => r.data

/-- A malformed request: FAULT at acceptance, a MALFORMED record and the FAULT cause (R26). -/
def State.judgeMalformed (s : State) (r : NpRequest) : State × Verdict :=
  ((s.createRecord (.malformed r.op r.wcode) .nothing r.address (requestData r)).setCause causeFault,
    .answer .fault 0)

/-- A well-formed write in MONITOR or ENFORCE. -/
def State.judgeGuarded (s : State) (r : NpRequest) : Target → State × Verdict
  | .exact i => s.judgeExact r i
  | .partialTo i => s.judgePartial r i
  | .straddling covered => s.judgeStraddle r covered
  | .unwatched => (s, forwardPresented r)
  | .malformed => (s, forwardPresented r)

/-- The judgement of a write against its class, by the mode (R27, R29 to R46). -/
def State.judgeWrite (s : State) (r : NpRequest) (t : Target) : State × Verdict :=
  match s.mode with
  | .bypass => s.judgeBypass r t
  | .monitor => s.judgeGuarded r t
  | .enforce => s.judgeGuarded r t

/-- The judgement of a request against its class (R25, R26, R46). -/
def State.judge (s : State) (r : NpRequest) (t : Target) : State × Verdict :=
  match t with
  | .malformed => s.judgeMalformed r
  | t =>
    match r.op with
    | .read => (s, s.judgeRead r)
    | .write => s.judgeWrite r t

end Sys2Proof.Machine
end

