-- ==== Sys2Proof/Machine/NearPort.lean ====
section
/-! DEFINITION. The near port and the Transit Queue: ACCEPTANCE and SEND (chapter 4). -/

namespace Sys2Proof.Machine

/-- The slot of an accepted request, filled from its judgement (R77, R78). -/
def slotOf (number : Word) (r : NpRequest) (t : Target) : Verdict → Slot
  | .forward wcode address data =>
    { number, tag := r.tag, op := r.op, wcode, address, data, cls := t.cls, covered := t.covered,
      disposition := .forward, state := .waitIssue }
  | .overlay bytes =>
    { number, tag := r.tag, op := r.op, wcode := r.wcode, address := r.address, data := requestData r,
      cls := t.cls, covered := t.covered, disposition := .forwardOverlay bytes, state := .waitIssue }
  | .answer status readData =>
    { number, tag := r.tag, op := r.op, wcode := r.wcode, address := r.address, data := requestData r,
      cls := t.cls, covered := t.covered, disposition := .answerLocal, state := .answered status readData }

/-- A slot is free and the checker is not in device reset (R75, R88). -/
def State.accepts (s : State) : Bool := !s.inReset && decide (s.slots.length < Config.tqSlots)

/-- The state against which an accepted request is judged: the acceptance is counted first, so that the order mark of a
group it completes is the count after it (R53, R76). -/
def State.countAcceptance (s : State) : State := { s with presented := none, accepted := s.accepted + 1 }

/-- An acceptance: the request takes a slot with the count as it stood, and is classified and judged in the same event;
while no slot is free, or in device reset, it stays presented and nothing is done with it (R75, R76, R88). -/
def State.acceptRequest (s : State) (r : NpRequest) : State :=
  if s.accepts then
    let t := s.target r
    let j := s.countAcceptance.judge r t
    { j.1 with slots := j.1.slots ++ [slotOf s.acceptCount r t j.2] }
  else { s with presented := some r }

/-- ACCEPTANCE (R75). -/
def execAcceptance (r : NpRequest) (s : State) : Host.Outcome State Fault Refusal := .next (s.acceptRequest r)

/-- The answer of the oldest slot sent once it is ANSWERED, and the slot freed (R84); none in device reset (R88). -/
def State.sendAnswer (s : State) : State :=
  match s.inReset, s.slots with
  | false, x :: rest =>
    match x.state with
    | .answered status readData => { s with slots := rest, npAnswer := some { tag := x.tag, status, readData } }
    | .waitIssue => s
    | .waitMemory => s
  | _, _ => s

/-- SEND (R84). -/
def execSend (s : State) : Host.Outcome State Fault Refusal := .next s.sendAnswer

end Sys2Proof.Machine
end

