-- ==== Sys2Proof/Machine/RingCommands.lean ====
section
/-! DEFINITION. CONFIG_RING, RING_OFF and RING_POLL (R141, R143, R144, R175). -/

namespace Sys2Proof.Machine

/-- The arguments that CONFIG_RING takes (R143). -/
def ringArgsOk (base : Word) (slots : Half) : Bool :=
  decide (base.toNat % 16 = 0) && decide (8 ≤ slots.toNat) && decide (slots.toNat ≤ 4096)
    && decide (base.toNat + 16 * slots.toNat - 1 ≤ 0xFFFFFFFF)

/-- The ring set anew: RUNNING at head 0 with its pending records and counters kept (R143). -/
def State.startRing (s : State) (base : Word) (slots : Half) : State :=
  { s with ringBase := base, ringSlots := slots.toNat, head := 0, ringState := .running, posting := .idle }

def configRingAct (base : Word) (slots : Half) (s : State) : State × Response :=
  if s.ringState = .running ∨ s.ringState = .suspended then (s, Response.refusal .state)
  else if ringArgsOk base slots = false then (s, Response.refusal .badArg)
  else if s.entryMeets base.toNat (16 * slots.toNat) then (s, Response.refusal .conflict)
  else (s.startRing base slots, Response.okEmpty)

/-- CONFIG_RING (R143, R175). -/
def execConfigRing (base : Word) (slots : Half) (s : State) : Host.Outcome State Fault Refusal :=
  .next (s.takeCommand 0x40 (leBytes 4 base.toNat ++ leBytes 2 slots.toNat) (configRingAct base slots))

def ringOffAct (s : State) : State × Response :=
  match s.posting with
  | .reading => (s, Response.refusal .busy)
  | .offered _ => (s, Response.refusal .busy)
  | .writing _ => (s, Response.refusal .busy)
  | .idle => ({ s with ringState := .off, records := [], lost := 0 }, Response.okEmpty)

/-- RING_OFF (R144, R175). -/
def execRingOff (s : State) : Host.Outcome State Fault Refusal := .next (s.takeCommand 0x41 [] ringOffAct)

def ringPollAct (s : State) : State × Response :=
  match s.ringState with
  | .suspended => ({ s with ringState := .running, posting := .idle }, Response.okEmpty)
  | .running => (s, Response.okEmpty)
  | .off => (s, Response.refusal .state)
  | .stopped => (s, Response.refusal .state)

/-- RING_POLL (R141, R175). -/
def execRingPoll (s : State) : Host.Outcome State Fault Refusal := .next (s.takeCommand 0x42 [] ringPollAct)

end Sys2Proof.Machine
end

