-- ==== Sys2Proof/Machine/Dispatch.lean ====
section
/-! DEFINITION. One arm per command: the meaning each row of the table has. -/

namespace Sys2Proof.Machine

def exec (i : Instr) (s : State) : Host.Outcome State Fault Refusal :=
  match i with
  | .acceptance r => Sys2Proof.Machine.execAcceptance r s
  | .send => Sys2Proof.Machine.execSend s
  | .issue => Sys2Proof.Machine.execIssue s
  | .commitStart => Sys2Proof.Machine.execCommitStart s
  | .commitMemberWrite => Sys2Proof.Machine.execCommitMemberWrite s
  | .fallbackIssue => Sys2Proof.Machine.execFallbackIssue s
  | .ownershipRead => Sys2Proof.Machine.execOwnershipRead s
  | .ringRecordWrite => Sys2Proof.Machine.execRingRecordWrite s
  | .memoryAnswer status data => Sys2Proof.Machine.execMemoryAnswer status data s
  | .tick => Sys2Proof.Machine.execTick s
  | .deadlineExpiry index => Sys2Proof.Machine.execDeadlineExpiry index s
  | .timeoutExpiry group => Sys2Proof.Machine.execTimeoutExpiry group s
  | .deviceReset power => Sys2Proof.Machine.execDeviceReset power s
  | .resetRelease => Sys2Proof.Machine.execResetRelease s
  | .frameStart => Sys2Proof.Machine.execFrameStart s
  | .frameNotTaken => Sys2Proof.Machine.execFrameNotTaken s
  | .nop => Sys2Proof.Machine.execNop s
  | .setMode code => Sys2Proof.Machine.execSetMode code s
  | .getStatus => Sys2Proof.Machine.execGetStatus s
  | .loadEntry p => Sys2Proof.Machine.execLoadEntry p s
  | .tuneEntry p => Sys2Proof.Machine.execTuneEntry p s
  | .setFresh p => Sys2Proof.Machine.execSetFresh p s
  | .retireEntry index => Sys2Proof.Machine.execRetireEntry index s
  | .readEntry index => Sys2Proof.Machine.execReadEntry index s
  | .preloadReference index value => Sys2Proof.Machine.execPreloadReference index value s
  | .forgetReference index => Sys2Proof.Machine.execForgetReference index s
  | .clearSticky index flags => Sys2Proof.Machine.execClearSticky index flags s
  | .releaseEntry index => Sys2Proof.Machine.execReleaseEntry index s
  | .configGroupEnable p => Sys2Proof.Machine.execConfigGroupEnable p s
  | .configGroupDisable p => Sys2Proof.Machine.execConfigGroupDisable p s
  | .readGroup group => Sys2Proof.Machine.execReadGroup group s
  | .configRing base slots => Sys2Proof.Machine.execConfigRing base slots s
  | .ringOff => Sys2Proof.Machine.execRingOff s
  | .ringPoll => Sys2Proof.Machine.execRingPoll s
  | .setTick length => Sys2Proof.Machine.execSetTick length s
  | .readTime => Sys2Proof.Machine.execReadTime s
  | .setAlertMask enables => Sys2Proof.Machine.execSetAlertMask enables s
  | .ackAlerts set => Sys2Proof.Machine.execAckAlerts set s
  | .incomingByte b => Sys2Proof.Machine.execIncomingByte b s

end Sys2Proof.Machine
end

