-- ==== Sys2Proof/Machine/Step.lean ====
section
/-! DEFINITION. One step: the command at the front of the queue, or one CLK period when none waits. -/

namespace Sys2Proof.Machine

/-- One step of the checker (notes/assumptions/1.md). -/
def step (s : State) : Host.Outcome State Fault Refusal :=
  match s.pending with
  | c :: rest => exec c { s with pending := rest }
  | [] => .next s.clockPeriod

/-- The state with the command a word spells at the front of its queue; unchanged where the word spells none, which is
every word, since the table gives no row any bits. -/
def State.withFetchWord (s : State) (nbits w : Nat) : State :=
  match decodeTableWord nbits w with
  | some c => { s with pending := c :: s.pending }
  | none => s

end Sys2Proof.Machine
end

