-- ==== Sys2Proof/Safety.lean ====
section
/-! DEFINITION. What claims say of every state: the laws that the checker's events keep. -/

namespace Sys2Proof.Machine

/-! ## The shapes results take -/

/-- The state after a command's effect, with its response held and the select line released (R164, R165). -/
def State.respond (t : State) (r : Response) : State :=
  { t with held := r, frame := .idle, receiver := [], outByte := none }

/-- A slot is free and the reset input is released (R75, R88). -/
def State.hasRoom (s : State) : Prop := s.inReset = false ∧ s.slots.length < 16

/-- The slot of a request accepted in `s` that is forwarded with this width code, address and data (R77). -/
def forwardSlot (s : State) (r : NpRequest) (c : AddrClass) (i : Option (Fin 48)) (wcode : BitVec 2)
    (address data : Word) : Slot :=
  { number := BitVec.ofNat 32 s.accepted, tag := r.tag, op := r.op, wcode, address, data, cls := c, covered := i,
    disposition := .forward, state := .waitIssue }

/-- The slot of a request accepted in `s` that the checker answers itself (R77, R79). -/
def localSlot (s : State) (r : NpRequest) (c : AddrClass) (i : Option (Fin 48)) (data : Word) (status : AnswerStatus)
    (readData : Word) : Slot :=
  { number := BitVec.ofNat 32 s.accepted, tag := r.tag, op := r.op, wcode := r.wcode, address := r.address, data,
    cls := c, covered := i, disposition := .answerLocal, state := .answered status readData }

/-- `s` with a request accepted into this slot and nothing else changed (R75, R76). -/
def State.acceptedWith (s : State) (slot : Slot) : State :=
  { s with presented := none, accepted := s.accepted + 1, slots := s.slots ++ [slot] }

/-- The entry after one violation is counted: the saturating counter and the sticky flags (R7, R9). -/
def Entry.violated (e : Entry) (flags : BitVec 6) : Entry :=
  { e with violations := if e.violations < 255 then e.violations + 1 else e.violations, sticky := e.sticky ||| flags }

/-- A counted entry trips: a nonzero threshold reached in READY or STALE (R32). -/
abbrev Entry.trips (e : Entry) : Prop := e.trip ≠ 0 ∧ (e.state = .ready ∨ e.state = .stale) ∧ e.trip ≤ e.violations

/-- The entry after one violation with these flags is counted and its trip test made (R31, R32). -/
def Entry.counted (e : Entry) (flags : BitVec 6) : Entry :=
  if (e.violated flags).trips then { e.violated flags with state := .latched, remaining := none } else e.violated flags

/-- The entry after a write of this value to it is admitted and forwarded (R36, R14). -/
def Entry.admitted (e : Entry) (v : Int) : Entry :=
  { e with
    reference := some v
    mark := none
    state := if e.state = .latched then .latched else .ready
    remaining := if e.state = .latched then e.remaining else e.period }

/-! ## Records of one event -/

/-- A record to be created (R127); its creation gives it the sequence number and the timestamp (R125). -/
structure Report where
  detail : Detail
  subject : Subject
  address : Word
  value : Word
  deriving DecidableEq, Repr

/-- These records created in turn (R129). -/
def State.reportAll (s : State) (reports : List Report) : State :=
  reports.foldl (fun t x => t.createRecord x.detail x.subject x.address x.value) s

/-- The TRIP records of those of these entries that one more violation trips, in the list's order (R32, R47). -/
def State.tripReports (s : State) (is : List (Fin 48)) (flags : BitVec 6) (value : Word) : List Report :=
  is.filterMap fun i =>
    if ((s.entry i).violated flags).trips then
      some { detail := .trip ((s.entry i).violated flags).violations, subject := .entry i
             address := (s.entry i).address, value }
    else none

/-- The records and causes of a write that violates these entries: its own record, then the TRIP records with the value of
that one; LIMIT, and TRIP where an entry trips (R47, R48). -/
def State.violationReported (s : State) (is : List (Fin 48)) (flags : BitVec 6) (report : Report) : State :=
  let trips := s.tripReports is flags report.value
  (s.reportAll (report :: trips)).setCause (if trips.isEmpty then 0x02 else 0x06)

/-- `s` after a violation of entry `i`: counted and flagged, tripped if due, and reported (R31, R32, R43, R47). -/
def State.afterViolation (s : State) (i : Fin 48) (flags : BitVec 6) (report : Report) : State :=
  (s.violationReported [i] flags report).setEntry i ((s.entry i).counted flags)

/-- The LIMIT record of a whole value that failed checks of entry `i` (R31, R47). -/
def State.limitReport (s : State) (i : Fin 48) (v : Int) (applied : Action) : Report where
  detail := .limit ((s.entry i).checks v).low ((s.entry i).checks v).high ((s.entry i).checks v).step applied
  subject := .entry i
  address := (s.entry i).address
  value := valueWord v

/-- The ABANDON record of a group's round (R55, R70). -/
def State.abandonReport (s : State) (g : Fin 8) (cause : AbandonCause) (value : Word) : Report where
  detail := .abandon (s.stagedMask g) cause
  subject := .group g
  address := s.lowestAddress g
  value := value

/-- The STALE records of a tick: of the entries whose running deadline it ends, in ascending index (R110, R114, R115). -/
def State.staleReports (s : State) : List Report :=
  (List.finRange 48).filterMap fun i =>
    if s.mode ≠ .bypass ∧ (s.entry i).remaining = some 1 then
      let pending := decide (s.mode = .enforce) && (s.entry i).fallback.isSome
      some { detail := .stale pending, subject := .entry i, address := (s.entry i).address
             value := if pending then valueWord ((s.entry i).fallback.getD 0) else 0 }
    else none

/-- The ABANDON records of a tick: of the groups whose countdown it ends, in ascending number, with no ticks left (R56,
R110). -/
def State.timeoutReports (s : State) : List Report :=
  (List.finRange 8).filterMap fun g =>
    if (s.group g).remaining = some 1 then some (s.abandonReport g .timeout 0) else none

/-- The ABANDON records of a change to BYPASS: of the OPEN groups, in ascending number, with the ticks they had left
(R57, R152). -/
def State.bypassReports (s : State) : List Report :=
  (List.finRange 8).filterMap fun g =>
    if (s.group g).state = .opened then
      some (s.abandonReport g .mode (BitVec.ofNat 32 ((s.group g).remaining.getD 0)))
    else none

/-! ## Judged writes -/

/-- The entry covers a byte of the request (R23). -/
abbrev State.covers (s : State) (r : NpRequest) (i : Fin 48) : Prop :=
  (s.entry i).state ≠ .vacant ∧ (s.entry i).address.toNat < r.address.toNat + 2 ^ r.wcode.toNat ∧
    r.address.toNat < (s.entry i).address.toNat + (s.entry i).width.bytes

/-- Some occupied entry covers a byte of the run of `n` bytes from `a` (R16). -/
abbrev State.overlapsEntry (s : State) (a n : Nat) : Prop :=
  ∃ i, (s.entry i).state ≠ .vacant ∧ (s.entry i).address.toNat < a + n ∧
    a < (s.entry i).address.toNat + (s.entry i).width.bytes

/-- The ring region, which stands while the ring is not OFF, covers a byte of the run of `n` bytes from `a` (R17). -/
abbrev State.overlapsRing (s : State) (a n : Nat) : Prop :=
  s.ringState ≠ .off ∧ s.ringBase.toNat < a + n ∧ a < s.ringBase.toNat + 16 * s.ringSlots

/-- The entry is a member of a group that stands in the commit-wait list (R27). -/
abbrev State.waitsToCommit (s : State) (i : Fin 48) : Prop := ∃ g, (s.entry i).group = some g ∧ g ∈ s.commitWait

/-- A write accepted in MONITOR or ENFORCE and not stopped by the latched check, which is judged for entry `i` on the whole
value `v`: an exact write on its own value, a merged partial write on the merged one (R29, R30, R40 to R42). -/
def State.judgedWhole (s : State) (r : NpRequest) (i : Fin 48) (v : Int) (own : Bool) : Prop :=
  s.hasRoom ∧ r.op = .write ∧ s.mode ≠ .bypass ∧ ¬ (s.mode = .enforce ∧ (s.entry i).state = .latched) ∧
    (s.target r = .exact i ∧ own = true ∧ v = readValue (s.entry i).width (s.entry i).signed r.data ∨
      s.target r = .partialTo i ∧ own = false ∧ (s.entry i).mergePartial = true ∧
        ∃ b, s.partialBase i = some b ∧ v = mergedValue (s.entry i) r b)

/-- The action applied to a violating whole write (R33, R34). -/
def State.applied (s : State) (i : Fin 48) : Action := if s.mode = .enforce then (s.entry i).action else .pass

/-- The value `w` with which a violating write of `v` is admitted: itself under PASS, clamped under CLAMP. `own'` says that
it is still the write's own (R33 to R35). -/
def State.admits (s : State) (i : Fin 48) (v : Int) (own : Bool) (w : Int) (own' : Bool) : Prop :=
  s.applied i = .pass ∧ w = v ∧ own' = own ∨ s.applied i = .clamp ∧ w = (s.entry i).clamped v ∧ own' = false

/-- The slot of an admitted write that is forwarded: as presented in MONITOR or when the value is the write's own, else the
whole value at the entry's address and width (R35, R41, R42). -/
def State.admittedSlot (s : State) (r : NpRequest) (i : Fin 48) (w : Int) (own : Bool) : Slot :=
  if s.mode = .enforce ∧ own = false then
    forwardSlot s r (s.target r).cls (some i) (s.entry i).width.code (s.entry i).address (valueData (s.entry i).width w)
  else forwardSlot s r (s.target r).cls (some i) r.wcode r.address r.data

/-- Everything that a judgement cannot reach is equal: the ports, the far port, the time base, the ring, the mask, the
mode and the link (R25). -/
def State.sameOutsideJudgement (s t : State) : Prop :=
  t.pending = s.pending ∧ t.inReset = s.inReset ∧ t.npAnswer = s.npAnswer ∧ t.commitBuffer = s.commitBuffer ∧
    t.fpRequest = s.fpRequest ∧ t.issueLog = s.issueLog ∧ t.drain = s.drain ∧ t.tickLength = s.tickLength ∧
    t.intervalLength = s.intervalLength ∧ t.clkCount = s.clkCount ∧ t.usCount = s.usCount ∧
    t.tickCounter = s.tickCounter ∧ t.ringState = s.ringState ∧ t.ringBase = s.ringBase ∧
    t.ringSlots = s.ringSlots ∧ t.head = s.head ∧ t.posting = s.posting ∧ t.mask = s.mask ∧ t.mode = s.mode ∧
    t.frame = s.frame ∧ t.receiver = s.receiver ∧ t.held = s.held ∧ t.outByte = s.outByte

/-! ## Commands as frames and runs -/

/-- The code and payload of a management command (section 9.3); none for an event. -/
def managementCommand : Instr → Option (Byte × List Byte)
  | .nop => some (0x00, [])
  | .setMode code => some (0x10, [code])
  | .getStatus => some (0x11, [])
  | .loadEntry p => some (0x20, loadBytes p)
  | .tuneEntry p => some (0x21, tuneBytes p)
  | .setFresh p => some (0x22, freshBytes p)
  | .retireEntry index => some (0x23, [index])
  | .readEntry index => some (0x24, [index])
  | .preloadReference index value => some (0x25, index :: leBytes 4 value.toNat)
  | .forgetReference index => some (0x26, [index])
  | .clearSticky index flags => some (0x27, [index, flags])
  | .releaseEntry index => some (0x28, [index])
  | .configGroupEnable p => some (0x30, groupBytes p)
  | .configGroupDisable p => some (0x30, groupBytes p)
  | .readGroup group => some (0x31, [group])
  | .configRing base slots => some (0x40, leBytes 4 base.toNat ++ leBytes 2 slots.toNat)
  | .ringOff => some (0x41, [])
  | .ringPoll => some (0x42, [])
  | .setTick length => some (0x50, leBytes 2 length.toNat)
  | .readTime => some (0x51, [])
  | .setAlertMask enables => some (0x60, [enables])
  | .ackAlerts set => some (0x61, [set])
  | .acceptance _ | .send | .issue | .commitStart | .commitMemberWrite | .fallbackIssue | .ownershipRead
  | .ringRecordWrite | .memoryAnswer _ _ | .tick | .deadlineExpiry _ | .timeoutExpiry _ | .deviceReset _
  | .resetRelease | .frameStart | .frameNotTaken | .incomingByte _ => none

/-- Of the two CONFIG_GROUP rows the enable carries 1 and the disable 0 in bit 1 of the flags byte (R174, R182). -/
def enableBitFits (c : Instr) : Prop :=
  (∀ p, c = .configGroupEnable p → p.flags.getLsbD 1 = true) ∧ ∀ p, c = .configGroupDisable p → p.flags.getLsbD 1 = false

/-- The bytes received are a frame of this command, which R164 takes: code, length, payload and CRC, then anything, and the
length is the one that the code requires (R161, R164). -/
def State.frameCarries (s : State) (code : Byte) (payload : List Byte) : Prop :=
  commandLength code = some payload.length ∧ ∃ pad : List Byte, s.receiver =
    code :: BitVec.ofNat 8 payload.length :: payload ++ crc (code :: BitVec.ofNat 8 payload.length :: payload) :: pad

/-- The commands run one after another; none where one has no next state. -/
def runAll : List Instr → State → Option State
  | [], s => some s
  | c :: cs, s =>
    match exec c s with
    | .next t => runAll cs t
    | .fault _ => none
    | .refused _ => none

/-- The number whose bytes, least significant first, are those of the list. -/
def leNat : List Byte → Nat
  | [] => 0
  | b :: bs => b.toNat + 256 * leNat bs

/-- The little-endian field of `size` bytes at `offset` of a payload (R161, R183). -/
def fieldAt (bytes : List Byte) (offset size : Nat) : Nat := leNat ((bytes.drop offset).take size)

/-! ## Laws of the state -/

/-- Every queue within its capacity (R84, R91, R106, R130, R131): while answers drain the issue log is empty. -/
structure State.Bounded (s : State) : Prop where
  slots : s.slots.length ≤ 16
  log : s.issueLog.length ≤ 24
  records : s.records.length ≤ 8
  lost : s.lost ≤ 65535
  drain : s.drain ≤ 24
  drained : s.drain = 0 ∨ s.issueLog = []
  counters : ∀ i, (s.entry i).violations ≤ 255 ∧ (s.entry i).denials ≤ 65535

/-- The placement law (R16, R17): no two occupied entries share a byte, and while the ring is not OFF none shares a byte
with the ring region. -/
structure State.Placed (s : State) : Prop where
  apart : ∀ i j, i ≠ j → (s.entry i).state ≠ .vacant → (s.entry j).state ≠ .vacant →
    (s.entry i).address.toNat + (s.entry i).width.bytes ≤ (s.entry j).address.toNat ∨
      (s.entry j).address.toNat + (s.entry j).width.bytes ≤ (s.entry i).address.toNat
  offRing : s.ringState ≠ .off → ∀ i, (s.entry i).state ≠ .vacant →
    (s.entry i).address.toNat + (s.entry i).width.bytes ≤ s.ringBase.toNat ∨
      s.ringBase.toNat + 16 * s.ringSlots ≤ (s.entry i).address.toNat

/-- The group law (R49 to R53): the commit-wait list holds exactly the COMMIT-WAIT groups, none twice; only an enabled
group is OPEN or in the list, and it has 2 to 8 members; a countdown stands exactly in OPEN and an order mark exactly in the
list; a timeout and a standing countdown lie from 1 to 65535; only members of OPEN and COMMIT-WAIT groups hold staged values,
in OPEN some but not all of them, in COMMIT-WAIT all of them. -/
structure State.GroupsLawful (s : State) : Prop where
  timeout : ∀ g, 1 ≤ (s.group g).timeout ∧ (s.group g).timeout ≤ 65535
  running : ∀ g n, (s.group g).remaining = some n → 1 ≤ n ∧ n ≤ 65535
  nodup : s.commitWait.Nodup
  listed : ∀ g, g ∈ s.commitWait ↔ (s.group g).state = .commitWait
  enabled : ∀ g, (s.group g).state ≠ .idle → (s.group g).enabled = true
  countdown : ∀ g, (s.group g).remaining.isSome = true ↔ (s.group g).state = .opened
  marked : ∀ g, (s.group g).mark.isSome = true ↔ (s.group g).state = .commitWait
  size : ∀ g, (s.group g).enabled = true → 2 ≤ (s.members g).length ∧ (s.members g).length ≤ 8
  staging : ∀ i, (s.stagedValue i).isSome = true → ∃ g, s.isMember g i = true ∧ (s.group g).state ≠ .idle
  begun : ∀ g, (s.group g).state = .opened → ∃ i, s.isMember g i = true ∧ (s.stagedValue i).isSome = true
  unfinished : ∀ g, (s.group g).state = .opened → ∃ i, s.isMember g i = true ∧ s.stagedValue i = none
  complete : ∀ g, (s.group g).state = .commitWait → ∀ i, s.isMember g i = true → (s.stagedValue i).isSome = true

/-- The ring's origins in the issue log, oldest first. -/
def ringOrigins (log : List LogEntry) : List Origin :=
  (log.map LogEntry.origin).filter fun
    | .ringRead _ => true
    | .ringWrite _ _ => true
    | .tqSlot _ => false
    | .commitMember _ _ => false
    | .fallback _ => false

/-- What the posting has outstanding in the issue log. -/
def State.postingOrigins (s : State) : List Origin :=
  match s.posting with
  | .idle => []
  | .offered _ => []
  | .reading => [.ringRead s.head]
  | .writing w => [.ringWrite s.head w]

/-- The posting law (R100, R132, R134): a posting in flight has a RUNNING ring, and the issue log holds exactly its one
outstanding request; a SUSPENDED or STOPPED ring or a posting in flight has a record waiting; in OFF none waits. -/
structure State.PostingLawful (s : State) : Prop where
  running : s.posting ≠ .idle → s.ringState = .running
  outstanding : ringOrigins s.issueLog = s.postingOrigins
  waiting : s.posting ≠ .idle ∨ s.ringState = .suspended ∨ s.ringState = .stopped → s.records ≠ []
  off : s.ringState = .off → s.records = []
  head : s.head < s.ringSlots ∨ (s.head = 0 ∧ s.ringSlots = 0 ∧ s.ringState = .off)

/-- The deadline law of an entry (R10, R11, R111, R116): remaining ticks stand only in READY, from 1 to the period; the
fallback-pending mark stands only in ENFORCE for a STALE or LATCHED entry with a fallback value; an entry with a fallback
value has a period; a member of a group has no period. -/
structure Entry.DeadlineLawful (e : Entry) (m : Mode) : Prop where
  count : ∀ n, e.remaining = some n → e.state = .ready ∧ 1 ≤ n ∧ ∃ p, e.period = some p ∧ n ≤ p
  mark : e.mark.isSome = true → m = .enforce ∧ (e.state = .stale ∨ e.state = .latched) ∧ e.fallback.isSome = true
  period : ∀ p, e.period = some p → 1 ≤ p ∧ p ≤ 65535 ∧ e.group = none
  fallback : e.fallback.isSome = true → e.period.isSome = true

/-- Every entry keeps the deadline law. -/
def State.DeadlinesLawful (s : State) : Prop := ∀ i, (s.entry i).DeadlineLawful s.mode

/-- The value law of an entry (R2, R5, R6, R7, R11): the limits, the fallback value and the reference are values of its type,
the limits in order, the fallback value within them, the step within the span, and the threshold at most 255. -/
structure Entry.ValueLawful (e : Entry) : Prop where
  low : ∀ l, e.low = some l → inType e.width e.signed l = true
  high : ∀ h, e.high = some h → inType e.width e.signed h = true
  ordered : ∀ l h, e.low = some l → e.high = some h → l ≤ h
  fallback : ∀ v, e.fallback = some v → inType e.width e.signed v = true ∧ (∀ l, e.low = some l → l ≤ v) ∧
    ∀ h, e.high = some h → v ≤ h
  reference : ∀ v, e.reference = some v → inType e.width e.signed v = true
  step : e.step ≤ e.width.span
  trip : e.trip ≤ 255

/-- Every entry keeps the value law, and every staged value is a value of its member's type (R2, R49). -/
structure State.ValuesLawful (s : State) : Prop where
  entries : ∀ i, (s.entry i).ValueLawful
  staged : ∀ i v, s.stagedValue i = some v → inType (s.entry i).width (s.entry i).signed v = true

/-- The acceptance number an issue-log entry names, if it is a Transit Queue slot's. -/
def tqNumber (e : LogEntry) : Option Word :=
  match e.origin with
  | .tqSlot n => some n
  | .commitMember _ _ => none
  | .fallback _ => none
  | .ringRead _ => none
  | .ringWrite _ _ => none

/-- The transit law (R75 to R78, R91): the slots hold the latest acceptance numbers in acceptance order; a slot still to be
issued stands behind every slot that waits for memory; and the issue log names exactly the slots that wait for memory, in
acceptance order. -/
structure State.TransitLawful (s : State) : Prop where
  fits : s.slots.length ≤ s.accepted ∧ s.slots.length ≤ 16
  numbers : s.slots.map Slot.number =
    (List.range s.slots.length).map fun k => BitVec.ofNat 32 (s.accepted - s.slots.length + k)
  order : s.slots.Pairwise fun x y => x.state = .waitIssue → y.state ≠ .waitMemory
  logged : s.issueLog.filterMap tqNumber = (s.slots.filter fun x => decide (x.state = .waitMemory)).map Slot.number

end Sys2Proof.Machine
end

