-- ==== Sys2Proof/WellFormed.lean ====
section
/-! DEFINITION. Which commands name an event of the checker at all: an expiry names an entry or a group that exists,
and each CONFIG_GROUP row carries its own enable choice. -/

namespace Sys2Proof

/-- A command that the block can be sent: DEADLINE_EXPIRY names one of the 48 entries (R1), TIMEOUT_EXPIRY one of
the groups 1 to 8 (R49), and the two CONFIG_GROUP rows carry enable and disable in bit 1 of the flags byte (R174, R182). Every other operand is exact
by its type; values that a rule refuses are taken and refused by the command itself (R166). -/
def Instr.wellFormed : Instr → Bool
  | .deadlineExpiry index => decide (index < 48)
  | .timeoutExpiry group => decide (1 ≤ group) && decide (group ≤ 8)
  | .configGroupEnable p => p.flags.getLsbD 1
  | .configGroupDisable p => !p.flags.getLsbD 1
  | .acceptance _ | .send | .issue | .commitStart | .commitMemberWrite | .fallbackIssue | .ownershipRead
  | .ringRecordWrite | .memoryAnswer _ _ | .tick | .deviceReset _ | .resetRelease | .frameStart | .frameNotTaken
  | .nop | .setMode _ | .getStatus | .loadEntry _ | .tuneEntry _ | .setFresh _ | .retireEntry _ | .readEntry _
  | .preloadReference _ _ | .forgetReference _ | .clearSticky _ _ | .releaseEntry _ | .readGroup _
  | .configRing _ _ | .ringOff | .ringPoll | .setTick _ | .readTime | .setAlertMask _ | .ackAlerts _
  | .incomingByte _ => true

end Sys2Proof
end

