-- ==== Sys2Proof/Certificates/Slice0/Obligations.lean ====
section
/-! DEFINITION. The statements for the provers, each a numbered rule's claim about the checker. -/

open Sys2Proof Sys2Proof.Machine

/-! ## Steps, the clock and reset -/

/-- A step takes the command at the front of the queue and runs it on the queue's rest. The queue is the model's
(notes/assumptions/1.md). -/
def Obligations.StepTakesFrontCommand : Prop :=
  ∀ (c : Instr) (rest : List Instr) (s : State),
    step { s with pending := c :: rest } = exec c { s with pending := rest }

/-- With nothing commanded one step is one CLK period: nothing in device reset; 16 periods are a microsecond; the interval
in progress ends in a tick after its length (R108, R186). That a period is a step is the model's choice
(notes/assumptions/1.md). -/
def Obligations.IdleStepCountsTheClock : Prop :=
  ∀ s : State, s.pending = [] →
    (s.inReset = true → step s = .next s) ∧
    (s.inReset = false → s.clkCount < 15 → step s = .next { s with clkCount := s.clkCount + 1 }) ∧
    (s.inReset = false → 15 ≤ s.clkCount → s.usCount + 1 < s.intervalLength →
      step s = .next { s with clkCount := 0, usCount := s.usCount + 1 }) ∧
    (s.inReset = false → 15 ≤ s.clkCount → s.intervalLength ≤ s.usCount + 1 → step s = exec .tick s)

/-- Every command answers a next state and leaves the queue to the step (R165; notes/assumptions/1.md). -/
def Obligations.EveryCommandGoesOnAndKeepsTheQueue : Prop :=
  ∀ (c : Instr) (s : State), ∃ t, exec c s = .next t ∧ t.pending = s.pending

/-- Device reset sets every block to its reset values and adds the issue-log count to the drain count, which applying power
sets to 0 (R184 with R24, R72, R88, R105, R106, R124, R149, R158, R159). The release ends the reset and begins the first tick
interval (R108); that a release outside device reset changes nothing is the model's choice (notes/assumptions/3.md). Applying
power and then releasing leaves the reset state, but for the queue, a request presented across the reset and the select line:
that these three stay, and that the two output channels and the outgoing byte then hold none, is the model's choice
(notes/assumptions/2.md, 9.md, 10.md). -/
def Obligations.DeviceResetAndReleaseSetEveryBlock : Prop :=
  (∀ (power : Bool) (s : State), ∃ t, exec (.deviceReset power) s = .next t ∧
    t.inReset = true ∧ t.slots = [] ∧ t.accepted = 0 ∧ (∀ i, t.entry i = Entry.vacant) ∧
    (∀ g, t.group g = Group.initial) ∧ (∀ i, t.stagedValue i = none) ∧ t.commitWait = [] ∧ t.commitBuffer = [] ∧
    t.issueLog = [] ∧ t.drain = (if power then 0 else s.drain + s.issueLog.length) ∧ t.tickLength = 1 ∧
    t.tickCounter = 0 ∧ t.records = [] ∧ t.sequence = 0 ∧ t.lost = 0 ∧ t.ringState = .off ∧ t.ringBase = 0 ∧
    t.ringSlots = 0 ∧ t.head = 0 ∧ t.posting = .idle ∧ t.causes = 0 ∧ t.mask = 0 ∧ t.mode = .bypass ∧
    t.receiver = [] ∧ t.held = Response.okEmpty) ∧
  (Entry.vacant = { state := .vacant, address := 0, width := .w1, signed := false, action := .pass
                    mergePartial := false, low := none, high := none, step := 0, trip := 0, group := none
                    period := none, fallback := none, reference := none, remaining := none, mark := none
                    violations := 0, denials := 0, sticky := 0 } ∧
    Group.initial = { enabled := false, timeout := 65535, reportCommit := false, state := .idle
                      remaining := none, mark := none } ∧
    Response.okEmpty = { status := .ok, payload := [] }) ∧
  ∀ s : State,
    (s.inReset = true → exec .resetRelease s = .next { s with
      inReset := false, intervalLength := s.tickLength, clkCount := 0, usCount := 0 }) ∧
    (s.inReset = false → exec .resetRelease s = .next s) ∧
    ∃ t, exec (.deviceReset true) s = .next t ∧
      exec .resetRelease t = .next { State.reset with
        pending := s.pending
        presented := s.presented
        frame := if s.frame = .idle then .idle else .void }

/-- While the checker is in device reset a presented request is not accepted, no answer is sent, nothing is granted, no tick
or expiry comes and no command is taken; a memory answer given with the issue log empty only lowers the drain count and
sets no cause (R88, R105, R106, R159, R184). -/
def Obligations.DeviceResetHoldsTheBlocks : Prop :=
  ∀ s : State, s.inReset = true →
    (∀ r, exec (.acceptance r) s = .next { s with presented := some r }) ∧
    (∀ c ∈ [Instr.send, .issue, .commitStart, .commitMemberWrite, .fallbackIssue, .ownershipRead, .ringRecordWrite,
        .tick, .nop, .getStatus, .ringOff, .ringPoll, .readTime], exec c s = .next s) ∧
    (∀ n, exec (.deadlineExpiry n) s = .next s ∧ exec (.timeoutExpiry n) s = .next s) ∧
    (∀ b, exec (.setMode b) s = .next s ∧ exec (.retireEntry b) s = .next s ∧ exec (.readEntry b) s = .next s ∧
      exec (.forgetReference b) s = .next s ∧ exec (.releaseEntry b) s = .next s ∧
      exec (.readGroup b) s = .next s ∧ exec (.setAlertMask b) s = .next s ∧ exec (.ackAlerts b) s = .next s) ∧
    (∀ p, exec (.loadEntry p) s = .next s) ∧ (∀ p, exec (.tuneEntry p) s = .next s) ∧
    (∀ p, exec (.setFresh p) s = .next s) ∧ (∀ p, exec (.configGroupEnable p) s = .next s) ∧
    (∀ p, exec (.configGroupDisable p) s = .next s) ∧ (∀ b v, exec (.preloadReference b v) s = .next s) ∧
    (∀ b f, exec (.clearSticky b f) s = .next s) ∧ (∀ a n, exec (.configRing a n) s = .next s) ∧
    (∀ n, exec (.setTick n) s = .next s) ∧
    (s.issueLog = [] → ∀ m d, exec (.memoryAnswer m d) s = .next { s with drain := s.drain - 1 })

/-! ## Acceptance -/

/-- A request is accepted exactly while a slot is free: while all 16 are occupied it stays presented and nothing is done with
it. An acceptance reaches nothing outside the queue, the entries, the groups, the staging, the records and the causes; its
slot takes the acceptance count as it stood, the tag and the operation, and stands youngest (R25, R75, R76). -/
def Obligations.AcceptanceTakesTheYoungestSlot : Prop :=
  ∀ (r : NpRequest) (s : State),
    (16 ≤ s.slots.length → exec (.acceptance r) s = .next { s with presented := some r }) ∧
    (s.hasRoom → ∃ t x, exec (.acceptance r) s = .next t ∧
      s.sameOutsideJudgement t ∧ t.presented = none ∧ t.accepted = s.accepted + 1 ∧ t.slots = s.slots ++ [x] ∧
      x.number = BitVec.ofNat 32 s.accepted ∧ x.tag = r.tag ∧ x.op = r.op ∧ x.state ≠ .waitMemory)

/-- The class of a request: malformed, or by the occupied entries it covers. One covered entry of the request's address and
width is exact; one that holds all its bytes and is wider, partial; none, unwatched; everything else straddling, with the
covered entries in ascending index (R23, R26). The class and the covered index that a slot takes from it (R77): the index of
the one covered entry, the lowest for a straddle. -/
def Obligations.RequestsClassifiedByCoveredEntries : Prop :=
  (∀ (i : Fin 48) (is : List (Fin 48)),
    ((Target.exact i).cls = .exact ∧ (Target.exact i).covered = some i) ∧
    ((Target.partialTo i).cls = .partialTo ∧ (Target.partialTo i).covered = some i) ∧
    ((Target.straddling (i :: is)).cls = .straddling ∧ (Target.straddling (i :: is)).covered = some i) ∧
    (Target.unwatched.cls = .unwatched ∧ Target.unwatched.covered = none) ∧
    (Target.malformed.cls = .malformed ∧ Target.malformed.covered = none)) ∧
  ∀ (r : NpRequest) (s : State),
    (s.target r = .malformed ↔ r.wcode = 3 ∨ r.address.toNat % 2 ^ r.wcode.toNat ≠ 0) ∧
    (s.target r ≠ .malformed →
      (s.target r = .unwatched ↔ ∀ i, ¬ s.covers r i) ∧
      (∀ i, s.target r = .exact i ↔ s.covers r i ∧ (∀ j, s.covers r j → j = i) ∧
        r.address = (s.entry i).address ∧ 2 ^ r.wcode.toNat = (s.entry i).width.bytes) ∧
      (∀ i, s.target r = .partialTo i ↔ s.covers r i ∧ (∀ j, s.covers r j → j = i) ∧
        (s.entry i).address.toNat ≤ r.address.toNat ∧
        r.address.toNat + 2 ^ r.wcode.toNat ≤ (s.entry i).address.toNat + (s.entry i).width.bytes ∧
        2 ^ r.wcode.toNat < (s.entry i).width.bytes) ∧
      (∀ is, s.target r = .straddling is ↔ is ≠ [] ∧ is.Pairwise (fun i j => i < j) ∧ (∀ i, i ∈ is ↔ s.covers r i) ∧
        (∀ i, s.target r ≠ .exact i ∧ s.target r ≠ .partialTo i)))

/-- An acceptance changes no entry of which it covers no byte, and no read changes any entry, group, staged value, record or
cause (R23, R46). -/
def Obligations.AcceptanceTouchesOnlyCoveredEntries : Prop :=
  ∀ (r : NpRequest) (s : State), s.hasRoom → ∃ t, exec (.acceptance r) s = .next t ∧
    (∀ i, ¬ s.covers r i → t.entry i = s.entry i) ∧
    (r.op = .read → s.target r ≠ .malformed →
      t.entries = s.entries ∧ t.groups = s.groups ∧ t.staged = s.staged ∧ t.commitWait = s.commitWait ∧
        t.records = s.records ∧ t.sequence = s.sequence ∧ t.lost = s.lost ∧ t.causes = s.causes)

/-- A request with width code 3 or an address that is not a multiple of its width is answered FAULT with read data 0,
reported as MALFORMED with the FAULT cause, and changes no entry, group or deadline, in every mode (R26). -/
def Obligations.MalformedRequestAnsweredFault : Prop :=
  ∀ (r : NpRequest) (s : State), s.hasRoom → (r.wcode = 3 ∨ r.address.toNat % 2 ^ r.wcode.toNat ≠ 0) →
    exec (.acceptance r) s = .next (((s.acceptedWith
        (localSlot s r .malformed none (if r.op = .write then r.data else 0) .fault 0)).createRecord
          (.malformed r.op r.wcode) .nothing r.address (if r.op = .write then r.data else 0)).setCause 0x20)

/-- Writes taken unchecked. An unwatched write, in any mode, and in BYPASS every well-formed write that is neither exact nor
partial to a member of a group in the commit-wait list, is forwarded as presented. In BYPASS a write exact to such a member
becomes its staged value, and a partial one replaces the written bytes of it; both are answered DONE. Nothing else changes
(R27, R28, R46). -/
def Obligations.UncheckedWritesForwardedOrStaged : Prop :=
  (∀ (r : NpRequest) (s : State), s.hasRoom → r.op = .write → s.target r ≠ .malformed →
    (s.target r = .unwatched ∨ s.mode = .bypass ∧
      ∀ i, s.target r = .exact i ∨ s.target r = .partialTo i → ¬ s.waitsToCommit i) →
    exec (.acceptance r) s = .next (s.acceptedWith
      (forwardSlot s r (s.target r).cls (s.target r).covered r.wcode r.address r.data))) ∧
  (∀ (s : State) (i j : Fin 48) (v : Option Int),
    (s.setStaged i v).stagedValue j = (if j = i then v else s.stagedValue j) ∧
      s.setStaged i v = { s with staged := (s.setStaged i v).staged }) ∧
  ∀ (r : NpRequest) (s : State) (i : Fin 48), s.hasRoom → s.mode = .bypass → r.op = .write →
    s.waitsToCommit i →
    (s.target r = .exact i → exec (.acceptance r) s = .next ((s.acceptedWith
      (localSlot s r .exact (some i) r.data .done 0)).setStaged i
        (some (readValue (s.entry i).width (s.entry i).signed r.data)))) ∧
    (∀ v, s.target r = .partialTo i → s.stagedValue i = some v → exec (.acceptance r) s = .next ((s.acceptedWith
      (localSlot s r .partialTo (some i) r.data .done 0)).setStaged i (some (mergedValue (s.entry i) r v))))

/-- The values compared and the checks made. The value of a write is the number its low 8 × width bits form, in two's
complement for a signed entry; a type is the whole numbers of its width and signedness, and a value written out and read back
is itself (R2, R3). A 32-bit field of a payload is read in two's complement for a signed entry and as plain binary for an
unsigned one, and a value is written out as the number of its residue; bytes are counted from the least significant (R2, R127,
R161). LOW fails below a present low limit, HIGH above a present high limit, STEP where a nonzero step is exceeded by the exact
difference to a present reference; all three are made, and each has its sticky flag (R5, R6, R30, R31, R182). -/
def Obligations.ChecksCompareExactValues : Prop :=
  (∀ (w : Width) (signed : Bool) (x : Word) (n : Nat), n = x.toNat % 2 ^ (8 * w.bytes) →
    (x &&& w.mask).toNat = n ∧
    readValue w signed x =
      if signed = true ∧ 2 ^ (8 * w.bytes - 1) ≤ n then (n : Int) - 2 ^ (8 * w.bytes) else (n : Int)) ∧
  (∀ (signed : Bool) (x : Word) (v : Int) (j : Nat) (bytes : List Byte),
    fieldValue signed x = (if signed = true ∧ 2 ^ 31 ≤ x.toNat then (x.toNat : Int) - 2 ^ 32 else (x.toNat : Int)) ∧
    ((valueWord v).toNat : Int) = v % 2 ^ 32 ∧ (byteAt x j).toNat = x.toNat / 256 ^ j % 256 ∧
    (bytes.length ≤ 4 → (wordOfBytes bytes).toNat = leNat bytes)) ∧
  (∀ (w : Width) (signed : Bool) (v : Int),
    w.typeMin signed = (if signed then -(2 : Int) ^ (8 * w.bytes - 1) else 0) ∧
    w.typeMax signed = (if signed then (2 : Int) ^ (8 * w.bytes - 1) else (2 : Int) ^ (8 * w.bytes)) - 1 ∧
    (inType w signed v = true ↔ w.typeMin signed ≤ v ∧ v ≤ w.typeMax signed) ∧
    (inType w signed v = true → readValue w signed (valueData w v) = v) ∧
    (valueData w v).toNat < 2 ^ (8 * w.bytes) ∧ w.bytes = 2 ^ w.code.toNat ∧ Width.ofCode w.code = w ∧
    w.span = 2 ^ (8 * w.bytes) - 1) ∧
  ∀ (e : Entry) (v : Int),
    ((e.checks v).low = true ↔ ∃ l, e.low = some l ∧ v < l) ∧
    ((e.checks v).high = true ↔ ∃ h, e.high = some h ∧ h < v) ∧
    ((e.checks v).step = true ↔ ∃ ref, e.reference = some ref ∧ 0 < e.step ∧ e.step < (v - ref).natAbs) ∧
    ((e.checks v).any = true ↔ (e.checks v).low = true ∨ (e.checks v).high = true ∨ (e.checks v).step = true) ∧
    (e.checks v).sticky = (if (e.checks v).low then 0x01 else 0) + (if (e.checks v).high then 0x02 else 0)
      + (if (e.checks v).step then 0x04 else 0)

/-- In ENFORCE an exact or partial write to a LATCHED entry is LOCAL and DENIED, and raises the latched-denial counter up to
65535 and nothing else. In MONITOR there is no latched check: an exact write to the entry, in any state, is judged from the
checks onward, and to an entry that is no member of an enabled group it is forwarded as presented, with no denial counted
(R29, R34). -/
def Obligations.LatchedWriteDenied : Prop :=
  ∀ (r : NpRequest) (s : State) (i : Fin 48), s.hasRoom → r.op = .write →
    (s.mode = .enforce → (s.entry i).state = .latched → s.target r = .exact i ∨ s.target r = .partialTo i →
      exec (.acceptance r) s = .next ((s.acceptedWith
        (localSlot s r (s.target r).cls (some i) r.data .denied 0)).setEntry i
          { s.entry i with denials :=
              if (s.entry i).denials < 65535 then (s.entry i).denials + 1 else (s.entry i).denials })) ∧
    (s.mode = .monitor → s.target r = .exact i →
      s.countAcceptance.judge r (.exact i) =
        s.countAcceptance.judgeValue r i (readValue (s.entry i).width (s.entry i).signed r.data) true) ∧
    (s.mode = .monitor → s.target r = .exact i → s.enabledGroup (s.entry i) = none →
      ∃ t, exec (.acceptance r) s = .next t ∧ (t.entry i).denials = (s.entry i).denials ∧
        t.slots = s.slots ++ [forwardSlot s r .exact (some i) r.wcode r.address r.data])

/-- A conforming exact or merged write to an ungrouped entry, or to a member of a disabled group, goes on: as presented, or in
ENFORCE a merged one as the whole value at the entry's address and width. The reference is set, a pending fallback cancelled,
and, unless the entry is LATCHED, it is READY with its deadline started (R30, R33 to R36, R41, R42). -/
def Obligations.ConformingWriteAdmitted : Prop :=
  ∀ (r : NpRequest) (s : State) (i : Fin 48) (v : Int) (own : Bool), s.judgedWhole r i v own →
    s.enabledGroup (s.entry i) = none → ((s.entry i).checks v).any = false →
    exec (.acceptance r) s = .next ((s.acceptedWith (s.admittedSlot r i v own)).setEntry i ((s.entry i).admitted v))

/-- A violating exact or merged write to an ungrouped entry, or to a member of a disabled group, that is admitted: in MONITOR
whatever the entry's action and state, in ENFORCE under PASS or CLAMP. It is counted and flagged once, with its LIMIT record
and cause; where the trip test is met the entry is LATCHED with its TRIP record and cause; and the write goes on with its own
or its clamped value, the reference set and a pending fallback cancelled. Nothing else changes (R31 to R36, R14, R41, R42,
R47). -/
def Obligations.ViolatingWriteAdmitted : Prop :=
  ∀ (r : NpRequest) (s : State) (i : Fin 48) (v w : Int) (own own' : Bool), s.judgedWhole r i v own →
    s.enabledGroup (s.entry i) = none → ((s.entry i).checks v).any = true → s.admits i v own w own' →
    exec (.acceptance r) s = .next
      (((s.acceptedWith (s.admittedSlot r i w own')).afterViolation i ((s.entry i).checks v).sticky
        (s.limitReport i v (s.applied i))).setEntry i
          (((s.entry i).counted ((s.entry i).checks v).sticky).admitted w))

/-- A violating exact or merged write in ENFORCE under HOLD or DENY is dropped, grouped or not: LOCAL, answered DONE or DENIED;
counted and flagged, the LIMIT record made and the trip test with its TRIP record; no reference, mark or staged value changes,
nor anything else (R31 to R33, R37, R41, R47). -/
def Obligations.ViolatingWriteDroppedInEnforce : Prop :=
  ∀ (r : NpRequest) (s : State) (i : Fin 48) (v : Int) (own : Bool) (a : AnswerStatus), s.judgedWhole r i v own →
    s.mode = .enforce → ((s.entry i).checks v).any = true →
    ((s.entry i).action = .hold ∧ a = .done ∨ (s.entry i).action = .deny ∧ a = .denied) →
    exec (.acceptance r) s = .next
      ((s.acceptedWith (localSlot s r (s.target r).cls (some i) r.data a 0)).afterViolation i
        ((s.entry i).checks v).sticky (s.limitReport i v (s.entry i).action))

/-- A partial violation is counted once, flagged PARTIAL and reported with the LIMIT cause, and the trip test made with its
TRIP record; it is DENIED in ENFORCE and forwarded as presented in MONITOR; it sets no reference, stages nothing and cancels no
fallback (R43, R47). -/
def Obligations.PartialViolationCountedAndNotAdmitted : Prop :=
  ∀ (r : NpRequest) (s : State) (i : Fin 48), s.hasRoom → r.op = .write → s.mode ≠ .bypass →
    s.target r = .partialTo i → ¬ (s.mode = .enforce ∧ (s.entry i).state = .latched) →
    ((s.entry i).mergePartial = false ∨ s.partialBase i = none) →
    exec (.acceptance r) s = .next
      ((s.acceptedWith (if s.mode = .enforce then localSlot s r .partialTo (some i) r.data .denied 0
        else forwardSlot s r .partialTo (some i) r.wcode r.address r.data)).afterViolation i 0x08
          { detail := .partialWrite (if s.mode = .enforce then .deny else .pass), subject := .entry i
            address := r.address, value := r.data &&& (Width.ofCode r.wcode).mask })

/-- Merged partial writes. The base is the staged value of a member of an enabled group that holds one, else the reference
(R40). The merged value is the value of the entry's type whose bytes k to k + w − 1 are the written data's bytes 0 to w − 1,
where k is the request address minus the entry address, and whose other bytes are the base's (R40). A conforming one to an
ungrouped entry goes on, in ENFORCE as the whole merged value at the entry's address and width, in MONITOR as the original
partial write; both set the reference to the merged value (R41, R42, R36). -/
def Obligations.MergedPartialWriteAdmitted : Prop :=
  (∀ (s : State) (i : Fin 48) (b : Int), s.partialBase i = some b ↔
    ((∃ g, (s.entry i).group = some g ∧ (s.group g).enabled = true) ∧ s.stagedValue i = some b ∨
      ¬ ((∃ g, (s.entry i).group = some g ∧ (s.group g).enabled = true) ∧ (s.stagedValue i).isSome = true) ∧
        (s.entry i).reference = some b)) ∧
  (∀ (r : NpRequest) (s : State) (i : Fin 48) (b : Int) (k : Nat), s.target r = .partialTo i →
    k = r.address.toNat - (s.entry i).address.toNat →
    inType (s.entry i).width (s.entry i).signed (mergedValue (s.entry i) r b) = true ∧
    ∀ j, j < (s.entry i).width.bytes → byteAt (valueWord (mergedValue (s.entry i) r b)) j =
      if k ≤ j ∧ j < k + 2 ^ r.wcode.toNat then byteAt r.data (j - k) else byteAt (valueWord b) j) ∧
  ∀ (r : NpRequest) (s : State) (i : Fin 48) (b v : Int), s.hasRoom → r.op = .write → s.mode ≠ .bypass →
    s.target r = .partialTo i → ¬ (s.mode = .enforce ∧ (s.entry i).state = .latched) →
    (s.entry i).mergePartial = true → s.partialBase i = some b → v = mergedValue (s.entry i) r b →
    s.enabledGroup (s.entry i) = none → ((s.entry i).checks v).any = false →
    exec (.acceptance r) s = .next ((s.acceptedWith
      (if s.mode = .enforce then
        forwardSlot s r .partialTo (some i) (s.entry i).width.code (s.entry i).address (valueData (s.entry i).width v)
      else forwardSlot s r .partialTo (some i) r.wcode r.address r.data)).setEntry i ((s.entry i).admitted v))

/-- A straddling write counts and flags every covered entry, makes one STRADDLE record naming the lowest, sets LIMIT, and trips
those due, each with its TRIP record in ascending index; it is DENIED in ENFORCE and forwarded as presented in MONITOR; it is
admitted for none: no reference, mark or staged value changes, nor anything else (R44, R45, R47). -/
def Obligations.StraddlingWriteCountsEveryCoveredEntry : Prop :=
  ∀ (r : NpRequest) (s : State) (i : Fin 48) (is : List (Fin 48)), s.hasRoom → r.op = .write → s.mode ≠ .bypass →
    s.target r = .straddling (i :: is) →
    ∃ t, exec (.acceptance r) s = .next t ∧
      t = { (s.acceptedWith (if s.mode = .enforce then localSlot s r .straddling (some i) r.data .denied 0
              else forwardSlot s r .straddling (some i) r.wcode r.address r.data)).violationReported (i :: is) 0x10
                { detail := .straddle (i :: is).length (if s.mode = .enforce then .deny else .pass)
                  subject := .entry i, address := r.address, value := r.data } with
            entries := t.entries } ∧
      (∀ j, j ∉ i :: is → t.entry j = s.entry j) ∧ ∀ j ∈ i :: is, t.entry j = (s.entry j).counted 0x10

/-- An exact or merged write admitted to a member of an enabled group is staged with its own, merged or clamped value and
answered DONE; a conforming one changes no entry, record or cause, a violating one has the effects of its violation alone.
Where the other members do not all hold staged values, an IDLE group opens with the full timeout and an OPEN one runs on; where
they do, the group becomes COMMIT-WAIT at the list's tail with the acceptance count as its order mark; in COMMIT-WAIT the value
is only replaced (R31 to R35, R37, R41, R42, R47, R52 to R54). -/
def Obligations.MemberWriteStaged : Prop :=
  ∀ (r : NpRequest) (s u : State) (i : Fin 48) (g : Fin 8) (v w : Int) (own own' : Bool), s.judgedWhole r i v own →
    s.enabledGroup (s.entry i) = some g →
    (((s.entry i).checks v).any = false ∧ w = v ∧
        u = s.acceptedWith (localSlot s r (s.target r).cls (some i) r.data .done 0) ∨
      ((s.entry i).checks v).any = true ∧ s.admits i v own w own' ∧
        u = (s.acceptedWith (localSlot s r (s.target r).cls (some i) r.data .done 0)).afterViolation i
          ((s.entry i).checks v).sticky (s.limitReport i v (s.applied i))) →
    ∃ t, exec (.acceptance r) s = .next t ∧
      t = { u with staged := t.staged, groups := t.groups, commitWait := t.commitWait } ∧
      t.stagedValue i = some w ∧ (∀ j, j ≠ i → t.stagedValue j = s.stagedValue j) ∧
      (∀ h, h ≠ g → t.group h = s.group h) ∧
      ((s.group g).state = .commitWait → t.groups = s.groups ∧ t.commitWait = s.commitWait) ∧
      ((s.group g).state ≠ .commitWait → (∀ j ∈ s.members g, j ≠ i → (s.stagedValue j).isSome = true) →
        t.group g = { s.group g with state := .commitWait, remaining := none, mark := some (s.accepted + 1) } ∧
          t.commitWait = s.commitWait ++ [g]) ∧
      ((s.group g).state ≠ .commitWait → ¬ (∀ j ∈ s.members g, j ≠ i → (s.stagedValue j).isSome = true) →
        t.commitWait = s.commitWait ∧
          t.group g = if (s.group g).state = .idle then
            { s.group g with state := .opened, remaining := some (s.group g).timeout } else s.group g)

/-- A well-formed read, in any mode: answered from the staged bytes where they cover it all, forwarded with the captured bytes
to lay over where they cover some, forwarded as presented where they cover none (R65, R66). Its slot names the class and the
covered index, on which the subject of a MEMERR record rests (R77, R83); that a straddling read names the lowest covered index
is the model's reading (notes/assumptions/12.md). The staged bytes, entries not
overlapping, are those of the members of enabled groups that hold staged values: byte k of the value stands at the member's
address plus k, and no other address has one (R65, R16). -/
def Obligations.ReadDisposedByStagedBytes : Prop :=
  (∀ (r : NpRequest) (s : State) (o : List (Option Byte)), s.hasRoom → r.op = .read → s.target r ≠ .malformed →
    o = (List.range (2 ^ r.wcode.toNat)).map (fun j => s.stagedByte (r.address.toNat + j)) →
    ∃ x, exec (.acceptance r) s = .next (s.acceptedWith x) ∧ x.number = BitVec.ofNat 32 s.accepted ∧
      x.tag = r.tag ∧ x.op = .read ∧ x.wcode = r.wcode ∧ x.address = r.address ∧ x.data = 0 ∧
      x.cls = (s.target r).cls ∧ x.covered = (s.target r).covered ∧
      ((∀ b ∈ o, b.isSome = true) → x.disposition = .answerLocal ∧
        x.state = .answered .done (wordOfBytes (o.map fun b => b.getD 0))) ∧
      ((∀ b ∈ o, b = none) → x.disposition = .forward ∧ x.state = .waitIssue) ∧
      ((∃ b ∈ o, b.isSome = true) → (∃ b ∈ o, b = none) →
        x.disposition = .forwardOverlay o ∧ x.state = .waitIssue)) ∧
  ∀ s : State, s.Placed →
    (∀ (i : Fin 48) (g : Fin 8) (v : Int) (k : Nat), s.isMember g i = true → (s.group g).enabled = true →
      s.stagedValue i = some v → k < (s.entry i).width.bytes →
      s.stagedByte ((s.entry i).address.toNat + k) = some (byteAt (valueWord v) k)) ∧
    ∀ a, (∀ (i : Fin 48) (g : Fin 8), s.isMember g i = true → (s.group g).enabled = true →
        (s.stagedValue i).isSome = true →
        a < (s.entry i).address.toNat ∨ (s.entry i).address.toNat + (s.entry i).width.bytes ≤ a) →
      s.stagedByte a = none

/-- The clamped value of a violating write under CLAMP in ENFORCE (R38). With L and H the limits or the type's ends, and S
the step window cut to the type range (the whole type range with step 0 or without a reference): where the target T, the
values in both [L, H] and S, is not empty, the clamped value is the point of T nearest V: V itself in T, the lower end below
it, the upper end above it; it is an end for a V that fails a check, and lies within the limits and within the step of the
reference. The entry's fields are those of the acceptance. -/
def Obligations.ClampedValueIsTheNearestOfTheTarget : Prop :=
  (∀ (e : Entry) (v l h a b : Int),
    l = e.low.getD (e.width.typeMin e.signed) → h = e.high.getD (e.width.typeMax e.signed) →
    (∀ x, (a ≤ x ∧ x ≤ b) ↔ (e.width.typeMin e.signed ≤ x ∧ x ≤ e.width.typeMax e.signed ∧
      ∀ ref, e.step ≠ 0 → e.reference = some ref → ref - e.step ≤ x ∧ x ≤ ref + e.step)) →
    (∃ x, l ≤ x ∧ x ≤ h ∧ a ≤ x ∧ x ≤ b) →
    l ≤ e.clamped v ∧ e.clamped v ≤ h ∧ a ≤ e.clamped v ∧ e.clamped v ≤ b ∧
      (∀ x, l ≤ x → x ≤ h → a ≤ x → x ≤ b → (e.clamped v - v).natAbs ≤ (x - v).natAbs) ∧
      (l ≤ v → v ≤ h → a ≤ v → v ≤ b → e.clamped v = v) ∧
      (v < max l a → e.clamped v = max l a) ∧ (min h b < v → e.clamped v = min h b) ∧
      ((e.checks v).any = true → e.clamped v = max l a ∨ e.clamped v = min h b) ∧
      (∀ ref, e.step ≠ 0 → e.reference = some ref → (e.clamped v - ref).natAbs ≤ e.step)) ∧
  ∀ (r : NpRequest) (s : State) (i : Fin 48) (v : Int), s.hasRoom → r.op = .write → s.mode = .enforce →
    s.target r = .exact i → (s.entry i).state ≠ .latched → s.enabledGroup (s.entry i) = none →
    v = readValue (s.entry i).width (s.entry i).signed r.data → ((s.entry i).checks v).any = true →
    (s.entry i).action = .clamp →
    ∃ t, exec (.acceptance r) s = .next t ∧ (t.entry i).reference = some ((s.entry i).clamped v)

/-- Where the step window lies wholly below the limits the clamped value is its upper end, and wholly above, its lower end
(R39). The premises hold of every entry by R2, R5, R12 and R20. -/
def Obligations.ClampWalksTowardTheLimits : Prop :=
  ∀ (e : Entry) (v ref : Int), e.step ≠ 0 → e.reference = some ref → inType e.width e.signed ref = true →
    (∀ l h, e.low = some l → e.high = some h → l ≤ h) →
    (∀ x, e.low = some x ∨ e.high = some x → inType e.width e.signed x = true) →
    (∀ l, e.low = some l → ref + e.step < l → e.clamped v = ref + e.step) ∧
    (∀ h, e.high = some h → h < ref - e.step → e.clamped v = ref - e.step)

/-! ## The Transit Queue -/

/-- The oldest slot, once ANSWERED, sends its tag, status and data and is freed, and a younger slot's answer waits (R84). That
SEND with the oldest slot not yet answered, or with no slot, changes nothing is the model's choice (notes/assumptions/3.md).
-/
def Obligations.OldestAnswerSentInOrder : Prop :=
  ∀ s : State,
    (∀ x rest st d, s.inReset = false → s.slots = x :: rest → x.state = .answered st d →
      exec .send s = .next { s with
        slots := rest, npAnswer := some { tag := x.tag, status := st, readData := d } }) ∧
    (∀ x rest, s.slots = x :: rest → x.state = .waitIssue ∨ x.state = .waitMemory → exec .send s = .next s) ∧
    (s.slots = [] → exec .send s = .next s)

/-- ISSUE: the oldest WAIT-ISSUE slot leaves on the far port with its own operation, width, address and data, 0 for a read,
joins the issue log's tail under its number, and becomes WAIT-MEMORY (R80, R89, R91). FALLBACK_ISSUE: the granted entry's
fallback value is written at its address and width, becomes its reference, and the mark is cleared; nothing else of the entry
changes (R99, R117). -/
def Obligations.SlotsAndFallbacksIssued : Prop :=
  (∀ (s : State) (x : Slot) (pre post : List Slot) (q : FpRequest), s.grant = some .controller →
    s.slots = pre ++ x :: post → (∀ y ∈ pre, y.state ≠ .waitIssue) → x.state = .waitIssue →
    q = { op := x.op, width := Width.ofCode x.wcode, address := x.address,
          data := if x.op = .read then 0 else x.data } →
    exec .issue s = .next { s with
      slots := pre ++ { x with state := .waitMemory } :: post
      issueLog := s.issueLog ++ [{ origin := .tqSlot x.number, request := q }]
      fpRequest := some q }) ∧
  ∀ (s : State) (i : Fin 48) (v : Int) (q : FpRequest), s.grant = some (.fallback i) →
    (s.entry i).fallback = some v →
    q = { op := .write, width := (s.entry i).width, address := (s.entry i).address,
          data := valueData (s.entry i).width v } →
    exec .fallbackIssue s = .next { s.setEntry i { s.entry i with reference := some v, mark := none } with
      issueLog := s.issueLog ++ [{ origin := .fallback i, request := q }]
      fpRequest := some q }

/-! ## The far arbiter -/

/-- The far arbiter. It grants nothing in device reset, with 24 requests logged, or while answers drain; a run in progress
takes every grant; a fallback or commit start is granted only when it is placed before the controller candidate, by the
smallest order mark, a fallback before a commit of the same mark and the lower index first; the controller's is granted only
when no internal candidate is placed before it; and some standing candidate is always granted. A row whose candidate is not
granted changes nothing, which is the model's choice (R94 to R97; notes/assumptions/3.md, 4.md). -/
def Obligations.FarArbiterGrantsByOrderMark : Prop :=
  ∀ s : State,
    (s.inReset = true ∨ 24 ≤ s.issueLog.length ∨ s.drain ≠ 0 → s.grant = none) ∧
    (s.inReset = false → s.issueLog.length < 24 → s.drain = 0 → s.commitBuffer ≠ [] → s.grant = some .commitWrite) ∧
    (s.grant = some .commitWrite → s.commitBuffer ≠ []) ∧
    (∀ i, s.grant = some (.fallback i) → ∃ m, (s.entry i).mark = some m ∧ s.placedBefore m = true ∧
      (∀ j n, (s.entry j).mark = some n → s.placedBefore n = true → m ≤ n ∧ (n = m → i ≤ j)) ∧
      (∀ g n, s.commitWait.head? = some g → (s.group g).mark = some n → s.placedBefore n = true → m ≤ n)) ∧
    (∀ g, s.grant = some (.commitStart g) → s.commitWait.head? = some g ∧
      ∃ m, (s.group g).mark = some m ∧ s.placedBefore m = true ∧
        ∀ j n, (s.entry j).mark = some n → s.placedBefore n = true → m < n) ∧
    (s.grant = some .controller → (∃ x ∈ s.slots, x.state = .waitIssue) ∧
      (∀ j n, (s.entry j).mark = some n → s.placedBefore n = false) ∧
      (∀ g n, s.commitWait.head? = some g → (s.group g).mark = some n → s.placedBefore n = false)) ∧
    (s.inReset = false → s.issueLog.length < 24 → s.drain = 0 → s.grant = none →
      (∀ x ∈ s.slots, x.state ≠ .waitIssue) ∧ (∀ i, (s.entry i).mark = none) ∧
      (∀ g, s.commitWait.head? = some g → (s.group g).mark = none) ∧
      ¬ (s.ringState = .running ∧ s.records ≠ [] ∧ (s.posting = .idle ∨ ∃ w, s.posting = .offered w))) ∧
    (s.grant ≠ some .controller → exec .issue s = .next s) ∧
    (s.grant ≠ some .commitWrite → exec .commitMemberWrite s = .next s) ∧
    ((∀ g, s.grant ≠ some (.commitStart g)) → exec .commitStart s = .next s) ∧
    ((∀ i, s.grant ≠ some (.fallback i)) → exec .fallbackIssue s = .next s) ∧
    (s.grant ≠ some .posting → exec .ownershipRead s = .next s ∧ exec .ringRecordWrite s = .next s)

/-- A posting step is granted only when no other candidate stands, and only a RUNNING ring with a record waiting offers one
(R97, R100, R134). -/
def Obligations.PostingGrantedLast : Prop :=
  ∀ s : State, s.GroupsLawful → s.grant = some .posting →
    s.commitBuffer = [] ∧ (∀ x ∈ s.slots, x.state ≠ .waitIssue) ∧ (∀ i, (s.entry i).mark = none) ∧
      s.commitWait = [] ∧ s.ringState = .running ∧ s.records ≠ [] ∧
      (s.posting = .idle ∨ ∃ w, s.posting = .offered w)

/-- An internal candidate stands after every slot accepted before its event and before every slot accepted after it, whatever
the count's wrap: with the oldest WAIT-ISSUE slot at place k of the queue, a mark is placed first exactly when it does not
exceed that slot's number of acceptances (R76, R95; the numbers of acceptances are the model's, notes/assumptions/11.md). -/
def Obligations.OrderMarksPlaceCandidatesByAcceptance : Prop :=
  ∀ (s : State) (x : Slot) (pre post : List Slot) (m : Nat), s.TransitLawful → m ≤ s.accepted →
    ((∀ y ∈ s.slots, y.state ≠ .waitIssue) → s.placedBefore m = true) ∧
    (s.slots = pre ++ x :: post → (∀ y ∈ pre, y.state ≠ .waitIssue) → x.state = .waitIssue →
      (s.placedBefore m = true ↔ m ≤ s.accepted - s.slots.length + pre.length))

/-! ## Groups and commits -/

/-- A group's members, each once, stand in ascending address order; the lowest is the first, and bit p of the staged-member mask
is that of the member at position p (R10, R50, R70). COMMIT_START: the group's staged values become its
members' references and its member writes in that order; the group is IDLE and off the list with its staging empty; the first
write is issued and the others stand in the buffer; a COMMIT record is made exactly with report-commit; nothing else changes
(R61, R62, R70, R98). -/
def Obligations.CommitStartEmptiesTheStaging : Prop :=
  (∀ (s : State) (g : Fin 8),
    (∀ i, i ∈ s.members g ↔ ((s.entry i).state ≠ .vacant ∧ (s.entry i).group = some g)) ∧ (s.members g).Nodup ∧
      ((s.members g).Pairwise fun i j => (s.entry i).address.toNat ≤ (s.entry j).address.toNat) ∧
      (∀ i, s.isMember g i = true ↔ (s.entry i).state ≠ .vacant ∧ (s.entry i).group = some g) ∧
      (∀ e : Entry, s.enabledGroup e = some g ↔ e.group = some g ∧ (s.group g).enabled = true) ∧
      (∀ i, (s.members g).head? = some i → s.lowestAddress g = (s.entry i).address) ∧
      ∀ k, k < 8 → ((s.stagedMask g).getLsbD k = true ↔
        ∃ i, (s.members g)[k]? = some i ∧ (s.stagedValue i).isSome = true)) ∧
  ∀ (s : State) (g : Fin 8) (i : Fin 48) (rest : List (Fin 48)) (v : Int), s.grant = some (.commitStart g) →
    s.members g = i :: rest → s.stagedValue i = some v → (∀ j ∈ rest, (s.stagedValue j).isSome = true) →
    ∃ t, exec .commitStart s = .next t ∧
      t = { (if (s.group g).reportCommit then
              s.reportAll [{ detail := .commit (s.members g).length, subject := .group g
                             address := (s.entry i).address, value := 0 }]
             else s) with
            fpRequest := some { op := .write, width := (s.entry i).width, address := (s.entry i).address,
                                data := valueData (s.entry i).width v }
            issueLog := s.issueLog ++ [{ origin := .commitMember g i
                                         request := { op := .write, width := (s.entry i).width,
                                                      address := (s.entry i).address,
                                                      data := valueData (s.entry i).width v } }]
            commitWait := s.commitWait.filter fun h => decide (h ≠ g)
            commitBuffer := t.commitBuffer, entries := t.entries, groups := t.groups, staged := t.staged } ∧
      t.commitBuffer.map (fun w => (w.group, w.entry, w.address, w.width, some w.value)) =
        rest.map (fun j => (g, j, (s.entry j).address, (s.entry j).width, s.stagedValue j)) ∧
      (∀ j, t.entry j = if s.isMember g j then { s.entry j with reference := s.stagedValue j } else s.entry j) ∧
      (∀ j, t.stagedValue j = if s.isMember g j then none else s.stagedValue j) ∧
      t.group g = { s.group g with state := .idle, remaining := none, mark := none } ∧
      ∀ h, h ≠ g → t.group h = s.group h

/-- COMMIT_MEMBER_WRITE issues the next write of the buffer; and while a run is in progress no command but that one and
DEVICE_RESET issues anything or touches the buffer (R62, R96). -/
def Obligations.CommitRunIsUnbroken : Prop :=
  ∀ (s : State) (w : CommitWrite) (ws : List CommitWrite), s.commitBuffer = w :: ws →
    (s.grant = some .commitWrite → exec .commitMemberWrite s = .next { s with
      commitBuffer := ws
      issueLog := s.issueLog ++ [{ origin := .commitMember w.group w.entry
                                   request := { op := .write, width := w.width, address := w.address,
                                                data := valueData w.width w.value } }]
      fpRequest := some { op := .write, width := w.width, address := w.address,
                          data := valueData w.width w.value } }) ∧
    ∀ c t, c ≠ .commitMemberWrite → (∀ p, c ≠ .deviceReset p) → exec c s = .next t →
      t.commitBuffer = s.commitBuffer ∧ t.fpRequest = s.fpRequest ∧
        (t.issueLog = s.issueLog ∨ t.issueLog = s.issueLog.tail)

/-! ## Postings and memory answers -/

/-- OWNERSHIP_READ reads word 0 of the head slot; RING_RECORD_WRITE writes the offered word of the head record into the head
slot, word 0 with ownership 1 and the fields in their places; the kinds, the detail bits of each kind and the subjects are
those of the tables (R127, R132, R134, R181). -/
def Obligations.PostingStepsIssued : Prop :=
  (∀ (s : State) (q : FpRequest), s.grant = some .posting → s.posting = .idle →
    q = { op := .read, width := .w4, address := s.ringBase + BitVec.ofNat 32 (16 * s.head), data := 0 } →
    exec .ownershipRead s = .next { s with
      posting := .reading
      issueLog := s.issueLog ++ [{ origin := .ringRead s.head, request := q }]
      fpRequest := some q }) ∧
  (∀ (s : State) (w : Fin 4) (r : Record) (rest : List Record) (q : FpRequest), s.grant = some .posting →
    s.posting = .offered w → s.records = r :: rest →
    q = { op := .write, width := .w4, address := s.ringBase + BitVec.ofNat 32 (16 * s.head + 4 * w.val),
          data := r.word w } →
    exec .ringRecordWrite s = .next { s with
      posting := .writing w
      issueLog := s.issueLog ++ [{ origin := .ringWrite s.head w, request := q }]
      fpRequest := some q }) ∧
  (∀ r : Record,
    (r.word 0).getLsbD 31 = true ∧ (r.word 0).extractLsb' 28 3 = 0 ∧
      ((r.word 0).extractLsb' 24 4).toNat = r.detail.kind ∧ (r.word 0).extractLsb' 16 8 = r.sequence ∧
      (r.word 0).extractLsb' 10 6 = r.subject.bits ∧ (r.word 0).extractLsb' 0 10 = r.detail.bits ∧
      r.word 1 = r.address ∧ r.word 2 = r.value ∧ r.word 3 = r.timestamp) ∧
  (∀ i g, (Subject.entry i).bits.toNat = i.val ∧ (Subject.group g).bits.toNat = g.val + 1 ∧
    Subject.nothing.bits = 63) ∧
  (∀ (d : Detail) (k n : Nat), k = d.kind → n = d.bits.toNat →
    (∀ op wcode, d = .malformed op wcode → k = 4 ∧ n = (if op = Op.write then 1 else 0) + 2 * wcode.toNat) ∧
    (∀ low high step a, d = .limit low high step a →
      k = 1 ∧ n = low.toNat + 2 * high.toNat + 4 * step.toNat + 8 * a.code) ∧
    (∀ a, d = .partialWrite a → k = 2 ∧ n = 8 * a.code) ∧
    (∀ c a, d = .straddle c a → c ≤ 4 → k = 3 ∧ n = c + 8 * a.code) ∧
    (∀ c, d = .trip c → c ≤ 255 → k = 5 ∧ n = c) ∧ (∀ p, d = .stale p → k = 6 ∧ n = p.toNat) ∧
    (∀ c, d = .commit c → c ≤ 8 → k = 7 ∧ n = c) ∧
    (∀ mask cause, d = .abandon mask cause → k = 8 ∧ n = mask.toNat + 256 * cause.code) ∧
    (∀ origin, d = .memErr origin → k = 9 ∧ n = origin.code) ∧ (d = .loss → k = 10 ∧ n = 0)) ∧
  [Action.pass, .clamp, .hold, .deny].map Action.code = [0, 1, 2, 3] ∧
  [AbandonCause.timeout, .mode, .disable].map AbandonCause.code = [0, 1, 2] ∧
  [MemErrOrigin.controllerRead, .controllerWrite, .commit, .fallback].map MemErrOrigin.code = [0, 1, 2, 3]

/-- The answer to a controller request leaves the log and answers its slot: a write OK is DONE with read data 0; a read OK is
DONE with the memory's low bytes, or with the captured bytes laid over them; an ERROR is FAULT with read data 0, a MEMERR
record and the FAULT cause (R81 to R83, R66, R92). The write OK is stated here for a ring that is not SUSPENDED. -/
def Obligations.ControllerRequestAnswered : Prop :=
  ∀ (s : State) (n : Word) (q : FpRequest) (rest : List LogEntry) (x : Slot) (pre post : List Slot) (d : Word),
    s.issueLog = { origin := .tqSlot n, request := q } :: rest → s.slots = pre ++ x :: post → x.number = n →
    x.state = .waitMemory → (∀ y ∈ pre, y.number ≠ n) → (∀ y ∈ post, y.number ≠ n) →
    (q.op = .write → s.ringState ≠ .suspended → exec (.memoryAnswer .ok d) s = .next { s with
      issueLog := rest, slots := pre ++ { x with state := .answered .done 0 } :: post }) ∧
    (q.op = .read → x.disposition = .forward → exec (.memoryAnswer .ok d) s = .next { s with
      issueLog := rest
      slots := pre ++ { x with state := .answered .done (d &&& (Width.ofCode x.wcode).mask) } :: post }) ∧
    (∀ o w, q.op = .read → x.disposition = .forwardOverlay o →
      w = wordOfBytes (o.zipIdx.map fun p => p.1.getD (byteAt d p.2)) →
      exec (.memoryAnswer .ok d) s = .next { s with
        issueLog := rest, slots := pre ++ { x with state := .answered .done w } :: post }) ∧
    exec (.memoryAnswer .error d) s = .next (({ s with
      issueLog := rest, slots := pre ++ { x with state := .answered .fault 0 } :: post }.createRecord
        (.memErr (if q.op = Op.read then .controllerRead else .controllerWrite))
        (match x.covered with
         | some i => .entry i
         | none => .nothing)
        q.address (if q.op = Op.read then 0 else q.data &&& q.width.mask)).setCause 0x20)

/-- A controller write answered OK while the ring is SUSPENDED: its slot is answered DONE with read data 0, and the ring becomes
RUNNING, with a fresh posting, exactly when the write covers the byte at base + 16 × head + 3 and clears that byte's top bit.
Nothing else changes (R81, R140). -/
def Obligations.HandBackOfTheHeadSlotResumesTheRing : Prop :=
  ∀ (s : State) (n : Word) (q : FpRequest) (rest : List LogEntry) (x : Slot) (pre post : List Slot) (d : Word)
    (own : Nat),
    s.issueLog = { origin := .tqSlot n, request := q } :: rest → s.slots = pre ++ x :: post → x.number = n →
    x.state = .waitMemory → (∀ y ∈ pre, y.number ≠ n) → (∀ y ∈ post, y.number ≠ n) →
    q.op = .write → s.ringState = .suspended → own = s.ringBase.toNat + 16 * s.head + 3 →
    (q.address.toNat ≤ own → own < q.address.toNat + q.width.bytes →
      q.data.getLsbD (8 * (own - q.address.toNat) + 7) = false →
      exec (.memoryAnswer .ok d) s = .next { s with
        issueLog := rest, slots := pre ++ { x with state := .answered .done 0 } :: post
        ringState := .running, posting := .idle }) ∧
    (own < q.address.toNat ∨ q.address.toNat + q.width.bytes ≤ own ∨
      q.data.getLsbD (8 * (own - q.address.toNat) + 7) = true →
      exec (.memoryAnswer .ok d) s = .next { s with
        issueLog := rest, slots := pre ++ { x with state := .answered .done 0 } :: post })

/-- The answer to a commit or fallback write only leaves the log when it is OK; an ERROR makes a MEMERR record with the
address and data of the issue log and sets FAULT; no entry or group changes (R63, R91, R118): that the record's value is the
log's data, 0 above the width, is the model's reading (notes/assumptions/20.md). An answer given while the issue log is empty
is discarded, lowering a nonzero drain count; outside device reset it sets FAULT and makes no record, and in device reset it
sets no cause (R93, R106). -/
def Obligations.OwnAndUnmatchedAnswersTaken : Prop :=
  (∀ (s : State) (m : MemStatus) (d : Word), s.issueLog = [] →
    (s.inReset = false → exec (.memoryAnswer m d) s = .next { s with
      drain := s.drain - 1, causes := s.causes ||| 0x20 }) ∧
    (s.inReset = true → exec (.memoryAnswer m d) s = .next { s with drain := s.drain - 1 })) ∧
  ∀ (s : State) (o : Origin) (m : MemErrOrigin) (i : Fin 48) (q : FpRequest) (rest : List LogEntry) (d : Word),
    s.issueLog = { origin := o, request := q } :: rest →
    ((∃ g, o = .commitMember g i) ∧ m = .commit ∨ o = .fallback i ∧ m = .fallback) →
    exec (.memoryAnswer .ok d) s = .next { s with issueLog := rest } ∧
    exec (.memoryAnswer .error d) s = .next (({ s with issueLog := rest }.createRecord (.memErr m) (.entry i)
      q.address q.data).setCause 0x20)

/-- The answers to a posting's requests. The ownership read: free offers word 1; owned suspends the ring with the RING cause;
ERROR stops it with FAULT and RING. A record write: OK offers the next of words 1, 2, 3, 0; the OK to word 0 completes the
posting, advances the head and sets RECORD, and reports the records lost where the queue is now empty; ERROR stops the ring
(R128, R135, R136). -/
def Obligations.PostingAnswersDriveTheRing : Prop :=
  ∀ (s : State) (e : LogEntry) (rest : List LogEntry) (d : Word), s.issueLog = e :: rest →
    (∀ k, e.origin = .ringRead k →
      (d.getLsbD 31 = false → exec (.memoryAnswer .ok d) s = .next { s with
        issueLog := rest, posting := .offered 1 }) ∧
      (d.getLsbD 31 = true → exec (.memoryAnswer .ok d) s = .next { s with
        issueLog := rest, ringState := .suspended, posting := .idle, causes := s.causes ||| 0x40 })) ∧
    (∀ k w, e.origin = .ringWrite k w →
      (w = 1 → exec (.memoryAnswer .ok d) s = .next { s with issueLog := rest, posting := .offered 2 }) ∧
      (w = 2 → exec (.memoryAnswer .ok d) s = .next { s with issueLog := rest, posting := .offered 3 }) ∧
      (w = 3 → exec (.memoryAnswer .ok d) s = .next { s with issueLog := rest, posting := .offered 0 }) ∧
      (w = 0 → s.lost = 0 ∨ 2 ≤ s.records.length → exec (.memoryAnswer .ok d) s = .next { s with
        issueLog := rest, records := s.records.tail, head := (s.head + 1) % s.ringSlots, posting := .idle,
        causes := s.causes ||| 0x01 }) ∧
      (w = 0 → s.lost ≠ 0 → s.records.length = 1 → s.ringState = .running →
        exec (.memoryAnswer .ok d) s = .next { s with
          issueLog := rest
          records := [{ detail := .loss, sequence := s.sequence, subject := .nothing, address := 0,
                        value := BitVec.ofNat 32 s.lost, timestamp := s.tickCounter }]
          sequence := s.sequence + 1, lost := 0, head := (s.head + 1) % s.ringSlots, posting := .idle,
          causes := s.causes ||| 0x01 })) ∧
    ((∃ k, e.origin = .ringRead k) ∨ (∃ k w, e.origin = .ringWrite k w) →
      exec (.memoryAnswer .error d) s = .next { s with
        issueLog := rest, ringState := .stopped, posting := .idle, causes := s.causes ||| 0x60 })

/-! ## Time -/

/-- A tick: the counter rises by 1 and wraps; a new interval begins at the tick length; each running deadline and each OPEN
group's countdown falls by 1, and one that reaches 0 expires in the same event: the entry is STALE with its STALE flag and
cause, and in ENFORCE with a fallback value its mark; the group is IDLE with its staging discarded and GROUP set. The STALE
records of the expiries in ascending index, then the ABANDON records with cause TIMEOUT in ascending number, join the queue.
Nothing else changes (R55, R56, R108 to R110, R114, R115, R129). -/
def Obligations.TickCountsAndExpires : Prop :=
  ∀ s : State, s.inReset = false → s.DeadlinesLawful → s.GroupsLawful →
    ∃ t, exec .tick s = .next t ∧
      t = { (({ s with tickCounter := s.tickCounter + 1, intervalLength := s.tickLength, clkCount := 0
                       usCount := 0 }.reportAll (s.staleReports ++ s.timeoutReports)).setCause
                ((if s.staleReports.isEmpty then 0 else 0x08) ||| if s.timeoutReports.isEmpty then 0 else 0x10)) with
            entries := t.entries, groups := t.groups, staged := t.staged } ∧
      (∀ i, (s.entry i).state ≠ .ready ∨ s.mode = .bypass ∨ (s.entry i).remaining = none →
        t.entry i = s.entry i) ∧
      (∀ i n, s.mode ≠ .bypass → (s.entry i).remaining = some (n + 2) →
        t.entry i = { s.entry i with remaining := some (n + 1) }) ∧
      (∀ i, s.mode ≠ .bypass → (s.entry i).remaining = some 1 →
        t.entry i = { s.entry i with
          state := .stale, remaining := none, sticky := (s.entry i).sticky ||| 0x20
          mark := if s.mode = .enforce ∧ (s.entry i).fallback.isSome = true then some s.accepted
            else (s.entry i).mark }) ∧
      (∀ g, (s.group g).state ≠ .opened → t.group g = s.group g) ∧
      (∀ g n, (s.group g).remaining = some (n + 2) → t.group g = { s.group g with remaining := some (n + 1) }) ∧
      (∀ g, (s.group g).remaining = some 1 →
        t.group g = { s.group g with state := .idle, remaining := none }) ∧
      (∀ i, (∃ g, s.isMember g i = true ∧ (s.group g).remaining = some 1) → t.stagedValue i = none) ∧
      (∀ i, ¬ (∃ g, s.isMember g i = true ∧ (s.group g).remaining = some 1) →
        t.stagedValue i = s.stagedValue i)

/-- The expiries. An entry whose running deadline stands at 1 expires in the tick that brings it to 0; where the count stands
at 0 the expiry alone is left: STALE, its record with the fallback value where the mark is set, and its cause. In the same
manner an OPEN group's round is abandoned with cause TIMEOUT. That these rows name the expiry's own tick is the model's
choice (R55, R56, R110, R114 to R116; notes/assumptions/5.md). -/
def Obligations.ExpiriesTakenAtZero : Prop :=
  (∀ (s : State) (i : Fin 48) (p : Bool), s.inReset = false → (s.entry i).state = .ready → s.mode ≠ .bypass →
    (p = true ↔ s.mode = .enforce ∧ (s.entry i).fallback.isSome = true) →
    ((s.entry i).remaining = some 1 → exec (.deadlineExpiry i.val) s = exec .tick s ∧
      ∃ t, exec (.deadlineExpiry i.val) s = .next t ∧ (t.entry i).state = .stale ∧ (t.entry i).remaining = none) ∧
    ((s.entry i).remaining = some 0 → exec (.deadlineExpiry i.val) s = .next (((s.setEntry i
        { s.entry i with
          state := .stale, remaining := none, sticky := (s.entry i).sticky ||| 0x20
          mark := if p then some s.accepted else (s.entry i).mark }).createRecord (.stale p) (.entry i)
          (s.entry i).address (if p then valueWord ((s.entry i).fallback.getD 0) else 0)).setCause 0x08)) ∧
    (∀ n, (s.entry i).remaining = some (n + 2) → exec (.deadlineExpiry i.val) s = .next s)) ∧
  (∀ (s : State) (g : Fin 8), s.inReset = false → (s.group g).state = .opened →
    ((s.group g).remaining = some 1 → exec (.timeoutExpiry (g.val + 1)) s = exec .tick s ∧
      ∃ t, exec (.timeoutExpiry (g.val + 1)) s = .next t ∧ (t.group g).state = .idle ∧
        (t.group g).remaining = none) ∧
    ((s.group g).remaining = some 0 → exec (.timeoutExpiry (g.val + 1)) s = .next ((((s.createRecord
        (.abandon (s.stagedMask g) .timeout) (.group g) (s.lowestAddress g) 0).clearStaged g).setGroup g
          { s.group g with state := .idle, remaining := none }).setCause 0x10)) ∧
    (∀ n, (s.group g).remaining = some (n + 2) → exec (.timeoutExpiry (g.val + 1)) s = .next s))

/-! ## Who changes what -/

/-- The tick counter moves only at a tick, the mode by SET_MODE, the mask by SET_ALERT_MASK, the tick length by SET_TICK, the
acceptance count by ACCEPTANCE, the ring's place by CONFIG_RING, an entry's place by LOAD_ENTRY and RETIRE_ENTRY, its period
and fallback by those and SET_FRESH, its rules by those and TUNE_ENTRY, and a group's enable by CONFIG_GROUP; a set cause is
cleared only by ACK_ALERTS; the slots change only by ACCEPTANCE, which adds one, SEND, which frees the oldest, and ISSUE and
MEMORY_ANSWER, which change nothing of a slot but its state and answer; DEVICE_RESET apart (R12, R18, R19, R21, R58, R76 to
R78, R86, R108, R109, R132, R145 to R147, R151, R155). -/
def Obligations.RegistersChangeOnlyByTheirCommands : Prop :=
  ∀ (c : Instr) (s t : State), exec c s = .next t → (∀ p, c ≠ .deviceReset p) →
    ((c ≠ .tick ∧ (∀ i, c ≠ .deadlineExpiry i) ∧ ∀ g, c ≠ .timeoutExpiry g) → t.tickCounter = s.tickCounter) ∧
    ((∀ b, c ≠ .setMode b) → t.mode = s.mode) ∧ ((∀ b, c ≠ .setAlertMask b) → t.mask = s.mask) ∧
    ((∀ n, c ≠ .setTick n) → t.tickLength = s.tickLength) ∧
    ((∀ r, c ≠ .acceptance r) → t.accepted = s.accepted) ∧
    ((∀ a n, c ≠ .configRing a n) → t.ringBase = s.ringBase ∧ t.ringSlots = s.ringSlots) ∧
    ((∀ b, c ≠ .ackAlerts b) → s.causes &&& t.causes = s.causes) ∧
    ((∀ r, c ≠ .acceptance r) ∧ c ≠ .send ∧ c ≠ .issue ∧ (∀ m d, c ≠ .memoryAnswer m d) → t.slots = s.slots) ∧
    (c = .send → t.slots = s.slots ∨ t.slots = s.slots.tail) ∧
    ((∃ r, c = .acceptance r) → t.slots = s.slots ∨ ∃ x, t.slots = s.slots ++ [x]) ∧
    (c = .issue ∨ (∃ m d, c = .memoryAnswer m d) →
      t.slots.map (fun x => { x with state := .waitIssue }) = s.slots.map fun x => { x with state := .waitIssue }) ∧
    (((∀ p, c ≠ .configGroupEnable p) ∧ ∀ p, c ≠ .configGroupDisable p) → ∀ g,
      (t.group g).enabled = (s.group g).enabled ∧ (t.group g).timeout = (s.group g).timeout ∧
        (t.group g).reportCommit = (s.group g).reportCommit) ∧
    (((∀ p, c ≠ .loadEntry p) ∧ ∀ b, c ≠ .retireEntry b) → ∀ i,
      ((t.entry i).address = (s.entry i).address ∧ (t.entry i).width = (s.entry i).width ∧
        (t.entry i).signed = (s.entry i).signed ∧ (t.entry i).group = (s.entry i).group) ∧
      ((∀ p, c ≠ .setFresh p) →
        (t.entry i).period = (s.entry i).period ∧ (t.entry i).fallback = (s.entry i).fallback) ∧
      ((∀ p, c ≠ .tuneEntry p) →
        (t.entry i).low = (s.entry i).low ∧ (t.entry i).high = (s.entry i).high ∧
          (t.entry i).step = (s.entry i).step ∧ (t.entry i).trip = (s.entry i).trip ∧
          (t.entry i).action = (s.entry i).action ∧ (t.entry i).mergePartial = (s.entry i).mergePartial))

/-- A record's creation. In OFF nothing; with room, the record joins the tail with the sequence number and the tick counter
as they stand and the sequence number rises; with the queue full, the number rises, the lost counter rises up to 65535, and
its rise from 0 sets LOSS (R125, R126, R131). -/
def Obligations.RecordCreatedOrCountedLost : Prop :=
  ∀ (s : State) (d : Detail) (x : Subject) (a v : Word),
    (s.ringState = .off → s.createRecord d x a v = s) ∧
    (s.ringState ≠ .off → s.records.length < 8 → s.createRecord d x a v = { s with
      sequence := s.sequence + 1
      records := s.records ++ [{ detail := d, sequence := s.sequence, subject := x, address := a, value := v,
                                 timestamp := s.tickCounter }] }) ∧
    (s.ringState ≠ .off → 8 ≤ s.records.length → s.createRecord d x a v = { s with
      sequence := s.sequence + 1
      lost := if s.lost < 65535 then s.lost + 1 else s.lost
      causes := if s.lost = 0 then s.causes ||| 0x80 else s.causes })

/-! ## The management link -/

/-- A frame's events. Select's fall begins a frame with an empty receiver, for the checker only outside device reset; each
byte of a frame joins the receiver and the held response's byte at its place goes out, 0x00 after its end: its status by the
codes of R166, its length, its payload, which is empty in a refusal, and its CRC; while select is high the clock is ignored.
Of a frame that is not one for the checker the bytes are discarded and its release changes nothing but the line (R159, R160,
R163, R166, R182); 0x00 goes out, after the release of the reset too, the response that the reset set being 0x00 throughout
(notes/assumptions/8.md). That FRAME_NOT_TAKEN without a frame changes nothing is the model's choice
(notes/assumptions/3.md). -/
def Obligations.FrameBytesPassBothWays : Prop :=
  [Status.ok, .unknown, .badFrame, .badArg, .conflict, .state, .busy].map Status.code = [0, 1, 2, 3, 4, 5, 6] ∧
  (∀ (x : Response) (status : Status) (payload : List Byte),
    x.bytes = [x.status.code, BitVec.ofNat 8 x.payload.length] ++ x.payload ++
      [crc ([x.status.code, BitVec.ofNat 8 x.payload.length] ++ x.payload)] ∧
    Response.refusal status = { status, payload := [] } ∧ Response.okWith payload = { status := .ok, payload }) ∧
  ∀ (s : State) (b : Byte),
    exec .frameStart s = .next { s with
      frame := if s.inReset then .void else .opened, receiver := [], outByte := none } ∧
    (s.frame = .idle → exec (.incomingByte b) s = .next s ∧ exec .frameNotTaken s = .next s) ∧
    (s.frame = .opened → exec (.incomingByte b) s = .next { s with
      receiver := s.receiver ++ [b]
      outByte := some (([s.held.status.code, BitVec.ofNat 8 s.held.payload.length] ++ s.held.payload ++
        [crc ([s.held.status.code, BitVec.ofNat 8 s.held.payload.length] ++ s.held.payload)]).getD
          s.receiver.length 0) }) ∧
    (s.frame = .void → exec (.incomingByte b) s = .next { s with outByte := some 0 }) ∧
    (∀ n, ([0x00, 0x00] ++ [crc [0x00, 0x00]]).getD n (0 : Byte) = 0) ∧
    (s.frame = .void → exec .frameNotTaken s = .next { s with frame := .idle, receiver := [], outByte := none })

/-- The CRC starts at 0 and takes each byte in order: exclusive-ORed in, then eight shifts to the left, with 0x07
exclusive-ORed in after each that drops a 1 out; its reference values are the spec's (R162). The catalogue holds 21 codes,
each with the length that it requires (R164). FRAME_NOT_TAKEN: the release of a frame for the checker is answered by the
first condition of R164 that it fails, and changes nothing beside the held response (R164). A frame that fails none takes its
command, a row of its own: that FRAME_NOT_TAKEN then changes nothing is the model's choice (notes/assumptions/3.md). -/
def Obligations.FrameNotTakenAnswersItsFirstFault : Prop :=
  (crc [] = 0 ∧ (∀ (bytes : List Byte) (b : Byte), crc (bytes ++ [b]) =
      Nat.repeat (fun x : Byte => if x.getLsbD 7 then (x <<< 1) ^^^ 0x07 else x <<< 1) 8 (crc bytes ^^^ b)) ∧
    crc [0x00, 0x00] = 0x00 ∧ crc [0x11, 0x00] = 0x42 ∧ crc [0x10, 0x01, 0x02] = 0xB9 ∧ crc [0x02, 0x00] = 0x2A) ∧
  (∀ (code : Byte) (n : Nat), commandLength code = some n ↔ (code.toNat, n) ∈
    [(0x00, 0), (0x10, 1), (0x11, 0), (0x20, 28), (0x21, 16), (0x22, 8), (0x23, 1), (0x24, 1), (0x25, 5), (0x26, 1),
      (0x27, 2), (0x28, 1), (0x30, 4), (0x31, 1), (0x40, 6), (0x41, 0), (0x42, 0), (0x50, 2), (0x51, 0), (0x60, 1),
      (0x61, 1)]) ∧
  ∀ s : State, s.frame = .opened →
    (s.receiver.length < 2 → exec .frameNotTaken s = .next (s.respond (Response.refusal .badFrame))) ∧
    ∀ code len rest, s.receiver = code :: len :: rest →
      (28 < len.toNat ∨ rest.length ≤ len.toNat →
        exec .frameNotTaken s = .next (s.respond (Response.refusal .badFrame))) ∧
      (∀ payload check pad, len.toNat ≤ 28 → rest = payload ++ check :: pad → payload.length = len.toNat →
        (check ≠ crc (code :: len :: payload) →
          exec .frameNotTaken s = .next (s.respond (Response.refusal .badFrame))) ∧
        (check = crc (code :: len :: payload) → commandLength code = none →
          exec .frameNotTaken s = .next (s.respond (Response.refusal .unknown))) ∧
        (∀ n, check = crc (code :: len :: payload) → commandLength code = some n → n ≠ len.toNat →
          exec .frameNotTaken s = .next (s.respond (Response.refusal .badArg))) ∧
        (check = crc (code :: len :: payload) → commandLength code = some len.toNat →
          exec .frameNotTaken s = .next s))

/-- The payloads lay their fields out in the order and the places of R171, R174 and R183, least significant byte first
(R161), and a frame is the code, the length, the payload and the CRC of these. Every management command's frame, however
padded after its CRC, is examined to that command's code and payload, and clocked in outside device reset it delivers the
command: the frame and the command alone do the same (R161, R164; notes/assumptions/7.md). -/
def Obligations.CommandFrameDeliversItsCommand : Prop :=
  (∀ n x : Nat, (leBytes n x).length = n ∧ fieldAt (leBytes n x) 0 n = x % 256 ^ n) ∧
  (∀ p : LoadPayload, (loadBytes p).length = 28 ∧ fieldAt (loadBytes p) 0 1 = p.index.toNat ∧
    fieldAt (loadBytes p) 1 4 = p.address.toNat ∧ fieldAt (loadBytes p) 5 1 = p.wcode.toNat ∧
    fieldAt (loadBytes p) 6 1 = p.flags.toNat ∧ fieldAt (loadBytes p) 7 1 = p.action.toNat ∧
    fieldAt (loadBytes p) 8 4 = p.low.toNat ∧ fieldAt (loadBytes p) 12 4 = p.high.toNat ∧
    fieldAt (loadBytes p) 16 4 = p.step.toNat ∧ fieldAt (loadBytes p) 20 1 = p.trip.toNat ∧
    fieldAt (loadBytes p) 21 1 = p.group.toNat ∧ fieldAt (loadBytes p) 22 2 = p.period.toNat ∧
    fieldAt (loadBytes p) 24 4 = p.fallback.toNat) ∧
  (∀ p : TunePayload, (tuneBytes p).length = 16 ∧ fieldAt (tuneBytes p) 0 1 = p.index.toNat ∧
    fieldAt (tuneBytes p) 1 1 = p.action.toNat ∧ fieldAt (tuneBytes p) 2 1 = p.flags.toNat ∧
    fieldAt (tuneBytes p) 3 4 = p.low.toNat ∧ fieldAt (tuneBytes p) 7 4 = p.high.toNat ∧
    fieldAt (tuneBytes p) 11 4 = p.step.toNat ∧ fieldAt (tuneBytes p) 15 1 = p.trip.toNat) ∧
  (∀ p : FreshPayload, (freshBytes p).length = 8 ∧ fieldAt (freshBytes p) 0 1 = p.index.toNat ∧
    fieldAt (freshBytes p) 1 1 = p.flags.toNat ∧ fieldAt (freshBytes p) 2 2 = p.period.toNat ∧
    fieldAt (freshBytes p) 4 4 = p.fallback.toNat) ∧
  (∀ p : GroupPayload, (groupBytes p).length = 4 ∧ fieldAt (groupBytes p) 0 1 = p.group.toNat ∧
    fieldAt (groupBytes p) 1 2 = p.timeout.toNat ∧ fieldAt (groupBytes p) 3 1 = p.flags.toNat) ∧
  (∀ (code : Byte) (payload : List Byte), commandFrame code payload =
    code :: BitVec.ofNat 8 payload.length :: payload ++ [crc (code :: BitVec.ofNat 8 payload.length :: payload)]) ∧
  ∀ (c : Instr) (code : Byte) (payload pad : List Byte) (s : State), managementCommand c = some (code, payload) →
    enableBitFits c → s.inReset = false → s.frame = .idle →
    commandLength code = some payload.length ∧
    examineFrame (commandFrame code payload ++ pad) = .command code payload ∧
    ∃ t, exec c s = .next t ∧
      runAll (.frameStart :: (commandFrame code payload ++ pad).map .incomingByte ++ [c]) s = some t

/-- NOP (R167): its frame, padded or not, changes no state but the held response, which becomes OK with length 0; every byte
clocked shifts out the byte of the response held before; with a CRC that fails it is answered BADFRAME, having shifted the
same bytes out; and the NOP's own response is OK, length 0, with CRC 0x00. -/
def Obligations.NopFrameOnlyCollects : Prop :=
  ∀ (s : State) (pad : List Byte), s.inReset = false →
    (s.delivers 0x00 [] = true → exec .nop s = .next (s.respond Response.okEmpty)) ∧
    runAll (.frameStart :: ([0x00, 0x00, 0x00] ++ pad).map .incomingByte ++ [.nop]) s =
      some (s.respond Response.okEmpty) ∧
    (∀ check, check ≠ 0x00 →
      runAll (.frameStart :: ([0x00, 0x00, check] ++ pad).map .incomingByte ++ [.frameNotTaken]) s =
        some (s.respond (Response.refusal .badFrame))) ∧
    (∀ bytes b, ∃ t, runAll (.frameStart :: (bytes ++ [b]).map .incomingByte) s = some t ∧ t.held = s.held ∧
      t.outByte = some (s.held.bytes.getD bytes.length 0)) ∧
    Response.okEmpty.bytes = [0x00, 0x00, 0x00]

/-! ## Management commands -/

/-- GET_STATUS, READ_TIME, READ_ENTRY and READ_GROUP change nothing but the held response, which carries the state as it
stands, each field in its place, by the codes of the tables (R22, R71, R169, R173, R174, R176, R183). -/
def Obligations.ReadCommandsAnswerTheStateAsItStands : Prop :=
  ([Mode.bypass, .monitor, .enforce].map Mode.code = [0, 1, 2] ∧
    [RingState.off, .running, .suspended, .stopped].map RingState.code = [0, 1, 2, 3] ∧
    [EntryState.vacant, .ready, .stale, .latched].map EntryState.code = [0, 1, 2, 3] ∧
    [GroupState.idle, .opened, .commitWait].map GroupState.code = [0, 1, 2] ∧
    [Width.w1, .w2, .w4].map Width.code = [0, 1, 2]) ∧
  ∀ s : State,
    (s.delivers 0x11 [] = true → ∃ p, exec .getStatus s = .next (s.respond (Response.okWith p)) ∧ p.length = 12 ∧
      fieldAt p 0 1 = s.mode.code ∧ fieldAt p 1 1 = s.ringState.code ∧ fieldAt p 2 2 = s.head % 2 ^ 16 ∧
      fieldAt p 4 1 = s.records.length % 2 ^ 8 ∧ fieldAt p 5 2 = s.lost % 2 ^ 16 ∧
      fieldAt p 7 1 = s.causes.toNat ∧ fieldAt p 8 1 = s.mask.toNat ∧ fieldAt p 9 1 = s.slots.length % 2 ^ 8 ∧
      fieldAt p 10 1 = s.issueLog.length % 2 ^ 8 ∧ fieldAt p 11 1 = s.commitWait.length % 2 ^ 8) ∧
    (s.delivers 0x51 [] = true → ∃ p, exec .readTime s = .next (s.respond (Response.okWith p)) ∧ p.length = 4 ∧
      fieldAt p 0 4 = s.tickCounter.toNat) ∧
    (∀ i : Fin 48, s.delivers 0x24 [BitVec.ofNat 8 i.val] = true →
      ∃ p, exec (.readEntry (BitVec.ofNat 8 i.val)) s = .next (s.respond (Response.okWith p)) ∧ p.length = 36 ∧
        fieldAt p 0 4 = (s.entry i).address.toNat ∧
        fieldAt p 4 1 = (s.entry i).width.code.toNat + 4 * (s.entry i).signed.toNat
          + 8 * (s.entry i).mergePartial.toNat + 16 * (s.entry i).action.code + 64 * (s.entry i).state.code ∧
        fieldAt p 5 1 = (s.entry i).low.isSome.toNat + 2 * (s.entry i).high.isSome.toNat
          + 4 * (s.entry i).group.isSome.toNat + 8 * (s.entry i).period.isSome.toNat
          + 16 * (s.entry i).fallback.isSome.toNat + 32 * (s.entry i).reference.isSome.toNat
          + 64 * (s.entry i).remaining.isSome.toNat + 128 * (s.entry i).mark.isSome.toNat ∧
        fieldAt p 6 4 = (valueWord ((s.entry i).low.getD 0)).toNat ∧
        fieldAt p 10 4 = (valueWord ((s.entry i).high.getD 0)).toNat ∧
        fieldAt p 14 4 = (s.entry i).step % 2 ^ 32 ∧
        fieldAt p 18 4 = (valueWord ((s.entry i).fallback.getD 0)).toNat ∧
        fieldAt p 22 4 = (valueWord ((s.entry i).reference.getD 0)).toNat ∧
        fieldAt p 26 1 = (s.entry i).trip % 2 ^ 8 ∧
        fieldAt p 27 1 = ((s.entry i).group.map fun g => g.val + 1).getD 0 ∧
        fieldAt p 28 2 = (s.entry i).period.getD 0 % 2 ^ 16 ∧
        fieldAt p 30 2 = (s.entry i).remaining.getD 0 % 2 ^ 16 ∧
        fieldAt p 32 1 = (s.entry i).violations % 2 ^ 8 ∧ fieldAt p 33 2 = (s.entry i).denials % 2 ^ 16 ∧
        fieldAt p 35 1 = (s.entry i).sticky.toNat) ∧
    (∀ g : Fin 8, s.delivers 0x31 [BitVec.ofNat 8 (g.val + 1)] = true →
      ∃ p, exec (.readGroup (BitVec.ofNat 8 (g.val + 1))) s = .next (s.respond (Response.okWith p)) ∧
        p.length = 17 ∧
        fieldAt p 0 1 = (s.group g).reportCommit.toNat + 2 * (s.group g).enabled.toNat
          + 4 * (s.group g).remaining.isSome.toNat ∧
        fieldAt p 1 1 = (s.group g).state.code ∧ fieldAt p 2 2 = (s.group g).timeout % 2 ^ 16 ∧
        fieldAt p 4 1 = (s.members g).length % 2 ^ 8 ∧
        (∀ (k : Nat) (i : Fin 48), k < 8 → (s.members g)[k]? = some i → fieldAt p (5 + k) 1 = i.val) ∧
        (∀ k, k < 8 → (s.members g).length ≤ k → fieldAt p (5 + k) 1 = 255) ∧
        (∀ (k : Nat) (i : Fin 48), k < 8 → (s.members g)[k]? = some i →
          ((fieldAt p 13 1).testBit k = true ↔ (s.stagedValue i).isSome = true)) ∧
        fieldAt p 14 2 = (s.group g).remaining.getD 0 % 2 ^ 16 ∧
        (∀ k, k < 8 → s.commitWait[k]? = some g → (∀ j, j < k → s.commitWait[j]? ≠ some g) →
          fieldAt p 16 1 = k + 1) ∧
        (g ∉ s.commitWait → fieldAt p 16 1 = 0))

/-- SET_MODE. A code above 2 is refused BADARG; the mode that stands has no effect. Leaving BYPASS gives each READY entry with
a period its full deadline; leaving ENFORCE clears every fallback mark; entering BYPASS abandons every OPEN group, with cause
MODE and the ticks it had left, their ABANDON records in ascending group number, and sets GROUP. Nothing else changes but the
held response and the released line (R57, R112, R120, R151 to R155, R168). -/
def Obligations.SetModeTakesItsEffects : Prop :=
  ∀ (s : State) (b : Byte), s.delivers 0x10 [b] = true →
    (2 < b.toNat → exec (.setMode b) s = .next (s.respond (Response.refusal .badArg))) ∧
    (b.toNat = s.mode.code → exec (.setMode b) s = .next (s.respond Response.okEmpty)) ∧
    ∀ (m : Mode) (reports : List Report), b.toNat = m.code →
      reports = (if m = .bypass ∧ s.mode ≠ .bypass then s.bypassReports else []) →
      ∃ t, exec (.setMode b) s = .next t ∧
      t = { (((s.reportAll reports).setCause (if reports.isEmpty then 0 else 0x10)).respond Response.okEmpty) with
            mode := m, entries := t.entries, groups := t.groups, staged := t.staged } ∧
      (s.mode = .bypass → m ≠ .bypass → ∀ i, t.entry i =
        if (s.entry i).state = .ready ∧ (s.entry i).period.isSome = true then
          { s.entry i with remaining := (s.entry i).period } else s.entry i) ∧
      (s.mode = .monitor → t.entries = s.entries) ∧
      (s.mode = .enforce → m ≠ .enforce → ∀ i, t.entry i = { s.entry i with mark := none }) ∧
      (m ≠ .bypass → t.groups = s.groups ∧ t.staged = s.staged) ∧
      (m = .bypass → s.mode ≠ .bypass →
        (∀ g, (s.group g).state = .opened →
          t.group g = { s.group g with state := .idle, remaining := none }) ∧
        (∀ g, (s.group g).state ≠ .opened → t.group g = s.group g) ∧
        (∀ i, (∃ g, s.isMember g i = true ∧ (s.group g).state = .opened) → t.stagedValue i = none) ∧
        (∀ i, ¬ (∃ g, s.isMember g i = true ∧ (s.group g).state = .opened) →
          t.stagedValue i = s.stagedValue i))

/-- LOAD_ENTRY. Arguments that R18 allows, at a place that no occupied entry and no ring region meets, outside every enabled
group, make the VACANT entry READY with the payload's parts, no history, and its deadline started outside BYPASS; the same
arguments at an occupied index, an occupied place or into an enabled group are refused CONFLICT; and each argument that R18
lists is refused BADARG (R18, R166, R170). -/
def Obligations.LoadEntryPlacesAReadyEntry : Prop :=
  ∀ (s : State) (p : LoadPayload), s.delivers 0x20 (loadBytes p) = true →
    (∀ (i : Fin 48) (a : Action) (e : Entry) (grp : Option (Fin 8)), p.index.toNat = i.val →
      p.action.toNat = a.code → p.wcode.toNat ≤ 2 →
      (∀ g, grp = some g ↔ p.flags.getLsbD 4 = true ∧ p.group.toNat = g.val + 1) →
      e = { state := .ready, address := p.address, width := Width.ofCode (p.wcode.setWidth 2)
            signed := p.flags.getLsbD 0, action := a, mergePartial := p.flags.getLsbD 1
            low := if p.flags.getLsbD 2 then some (fieldValue (p.flags.getLsbD 0) p.low) else none
            high := if p.flags.getLsbD 3 then some (fieldValue (p.flags.getLsbD 0) p.high) else none
            step := p.step.toNat, trip := p.trip.toNat
            group := grp
            period := if p.flags.getLsbD 5 then some p.period.toNat else none
            fallback := if p.flags.getLsbD 6 then some (fieldValue (p.flags.getLsbD 0) p.fallback) else none
            reference := none
            remaining := if s.mode = .bypass then none
              else if p.flags.getLsbD 5 then some p.period.toNat else none
            mark := none, violations := 0, denials := 0, sticky := 0 } →
      p.address.toNat % 2 ^ p.wcode.toNat = 0 → p.step.toNat ≤ e.width.span →
      (∀ v, e.low = some v ∨ e.high = some v → inType e.width e.signed v = true) →
      (∀ l h, e.low = some l → e.high = some h → l ≤ h) →
      (p.flags.getLsbD 4 = true → 1 ≤ p.group.toNat ∧ p.group.toNat ≤ 8 ∧ p.flags.getLsbD 5 = false) →
      (p.flags.getLsbD 5 = true → p.period ≠ 0) →
      (∀ v, e.fallback = some v → p.flags.getLsbD 5 = true ∧ inType e.width e.signed v = true ∧
        (∀ l, e.low = some l → l ≤ v) ∧ ∀ h, e.high = some h → v ≤ h) →
      ((s.entry i).state = .vacant → ¬ s.overlapsEntry e.address.toNat e.width.bytes →
        ¬ s.overlapsRing e.address.toNat e.width.bytes →
        (∀ g, e.group = some g → (s.group g).enabled = false) →
        exec (.loadEntry p) s = .next ((s.setEntry i e).respond Response.okEmpty)) ∧
      ((s.entry i).state ≠ .vacant ∨ s.overlapsEntry e.address.toNat e.width.bytes ∨
          s.overlapsRing e.address.toNat e.width.bytes ∨ (∃ g, e.group = some g ∧ (s.group g).enabled = true) →
        exec (.loadEntry p) s = .next (s.respond (Response.refusal .conflict)))) ∧
    ∀ (w : Width) (signed : Bool) (low high fallback : Option Int), w = Width.ofCode (p.wcode.setWidth 2) →
      signed = p.flags.getLsbD 0 → low = (if p.flags.getLsbD 2 then some (fieldValue signed p.low) else none) →
      high = (if p.flags.getLsbD 3 then some (fieldValue signed p.high) else none) →
      fallback = (if p.flags.getLsbD 6 then some (fieldValue signed p.fallback) else none) →
      (48 ≤ p.index.toNat ∨ 3 ≤ p.wcode.toNat ∨ p.address.toNat % 2 ^ p.wcode.toNat ≠ 0 ∨ 4 ≤ p.action.toNat ∨
          (∃ v, (low = some v ∨ high = some v ∨ fallback = some v) ∧ inType w signed v = false) ∨
          w.span < p.step.toNat ∨ (∃ l h, low = some l ∧ high = some h ∧ h < l) ∨
          (p.flags.getLsbD 4 = true ∧ (p.group.toNat = 0 ∨ 8 < p.group.toNat)) ∨
          (p.flags.getLsbD 5 = true ∧ p.period = 0) ∨ (p.flags.getLsbD 4 = true ∧ p.flags.getLsbD 5 = true) ∨
          (p.flags.getLsbD 6 = true ∧ p.flags.getLsbD 5 = false) ∨
          (∃ v, fallback = some v ∧ ((∃ l, low = some l ∧ v < l) ∨ ∃ h, high = some h ∧ h < v)) →
        exec (.loadEntry p) s = .next (s.respond (Response.refusal .badArg)))

/-- TUNE_ENTRY replaces the six rules of an occupied entry and nothing else (R19). SET_FRESH replaces the period and fallback
value of an ungrouped one: a READY entry's deadline starts at the new period outside BYPASS and is absent in BYPASS or without
a period; a STALE or LATCHED entry has none, and keeps its fallback mark only with a fallback value (R121). A VACANT entry is
refused STATE, a grouped one is refused SET_FRESH with CONFLICT. An index above 47, an action above 3, a low limit above the
high one, a period of 0 or a fallback value without a period is refused BADARG whatever the entry; a value outside the type, a
step above the span and a fallback value left outside the limits are refused BADARG of an entry not refused before (R19, R121,
R166). That the limits given for a VACANT entry are compared as unsigned is the model's reading (notes/assumptions/13.md). -/
def Obligations.TuneAndFreshReplaceTheirFields : Prop :=
  (∀ (s : State) (p : TunePayload) (i : Fin 48) (a : Action) (e : Entry), s.delivers 0x21 (tuneBytes p) = true →
    p.index.toNat = i.val → p.action.toNat = a.code →
    e = { s.entry i with
          action := a, mergePartial := p.flags.getLsbD 1
          low := if p.flags.getLsbD 2 then some (fieldValue (s.entry i).signed p.low) else none
          high := if p.flags.getLsbD 3 then some (fieldValue (s.entry i).signed p.high) else none
          step := p.step.toNat, trip := p.trip.toNat } →
    (∀ l h, e.low = some l → e.high = some h → l ≤ h) →
    ((s.entry i).state = .vacant → exec (.tuneEntry p) s = .next (s.respond (Response.refusal .state))) ∧
    ((s.entry i).state ≠ .vacant → (∀ v, e.low = some v ∨ e.high = some v → inType e.width e.signed v = true) →
      p.step.toNat ≤ e.width.span →
      (∀ v, e.fallback = some v → inType e.width e.signed v = true ∧
        (∀ l, e.low = some l → l ≤ v) ∧ ∀ h, e.high = some h → v ≤ h) →
      exec (.tuneEntry p) s = .next ((s.setEntry i e).respond Response.okEmpty)) ∧
    ((s.entry i).state ≠ .vacant →
      (∃ v, (e.low = some v ∨ e.high = some v) ∧ inType e.width e.signed v = false) ∨ e.width.span < p.step.toNat ∨
        (∃ v, e.fallback = some v ∧ ((∃ l, e.low = some l ∧ v < l) ∨ ∃ h, e.high = some h ∧ h < v)) →
      exec (.tuneEntry p) s = .next (s.respond (Response.refusal .badArg)))) ∧
  (∀ (s : State) (p : TunePayload), s.delivers 0x21 (tuneBytes p) = true →
    48 ≤ p.index.toNat ∨ 4 ≤ p.action.toNat ∨
      (∃ i : Fin 48, p.index.toNat = i.val ∧ p.flags.getLsbD 2 = true ∧ p.flags.getLsbD 3 = true ∧
        fieldValue (s.entry i).signed p.high < fieldValue (s.entry i).signed p.low) →
    exec (.tuneEntry p) s = .next (s.respond (Response.refusal .badArg))) ∧
  (∀ (s : State) (p : FreshPayload), s.delivers 0x22 (freshBytes p) = true →
    48 ≤ p.index.toNat ∨ (p.flags.getLsbD 5 = true ∧ p.period = 0) ∨
      (p.flags.getLsbD 6 = true ∧ p.flags.getLsbD 5 = false) →
    exec (.setFresh p) s = .next (s.respond (Response.refusal .badArg))) ∧
  ∀ (s : State) (p : FreshPayload) (i : Fin 48) (per : Option Nat) (fb : Option Int),
    s.delivers 0x22 (freshBytes p) = true → p.index.toNat = i.val →
    per = (if p.flags.getLsbD 5 then some p.period.toNat else none) →
    fb = (if p.flags.getLsbD 6 then some (fieldValue (s.entry i).signed p.fallback) else none) →
    per ≠ some 0 → (fb.isSome = true → per.isSome = true) →
    ((s.entry i).state = .vacant → exec (.setFresh p) s = .next (s.respond (Response.refusal .state))) ∧
    ((s.entry i).state ≠ .vacant → (s.entry i).group.isSome = true →
      exec (.setFresh p) s = .next (s.respond (Response.refusal .conflict))) ∧
    ((s.entry i).state ≠ .vacant → (s.entry i).group = none →
      (∀ v, fb = some v → inType (s.entry i).width (s.entry i).signed v = true ∧
        (∀ l, (s.entry i).low = some l → l ≤ v) ∧ ∀ h, (s.entry i).high = some h → v ≤ h) →
      exec (.setFresh p) s = .next ((s.setEntry i { s.entry i with
        period := per, fallback := fb
        remaining := if (s.entry i).state = .ready ∧ s.mode ≠ .bypass then per else none
        mark := if (s.entry i).state ≠ .ready ∧ fb.isSome = true then (s.entry i).mark else none
        }).respond Response.okEmpty)) ∧
    ((s.entry i).state ≠ .vacant → (s.entry i).group = none →
      (∃ v, fb = some v ∧ (inType (s.entry i).width (s.entry i).signed v = false ∨
        (∃ l, (s.entry i).low = some l ∧ v < l) ∨ ∃ h, (s.entry i).high = some h ∧ h < v)) →
      exec (.setFresh p) s = .next (s.respond (Response.refusal .badArg)))

/-- The commands of one entry: RETIRE_ENTRY leaves it VACANT, unless it is a member of an enabled group; PRELOAD_REFERENCE
sets the reference to a value of the type; FORGET_REFERENCE clears it; CLEAR_STICKY clears the named flags; RELEASE_ENTRY
returns a LATCHED entry to READY with its violation counter 0 and its deadline started outside BYPASS. A VACANT entry is
refused STATE (R9, R15, R20, R21, R172). -/
def Obligations.EntryCommandsActOnTheirEntry : Prop :=
  (∀ (s : State) (i j : Fin 48) (e : Entry), (s.setEntry i e).entry j = (if j = i then e else s.entry j) ∧
    s.setEntry i e = { s with entries := (s.setEntry i e).entries }) ∧
  ∀ (s : State) (i : Fin 48) (b : Byte), b = BitVec.ofNat 8 i.val →
    (s.delivers 0x23 [b] = true →
      ((s.entry i).state ≠ .vacant → s.enabledGroup (s.entry i) = none →
        exec (.retireEntry b) s = .next ((s.setEntry i Entry.vacant).respond Response.okEmpty)) ∧
      ((s.entry i).state ≠ .vacant → (s.enabledGroup (s.entry i)).isSome = true →
        exec (.retireEntry b) s = .next (s.respond (Response.refusal .conflict))) ∧
      ((s.entry i).state = .vacant → exec (.retireEntry b) s = .next (s.respond (Response.refusal .state)))) ∧
    (∀ v : Word, s.delivers 0x25 (b :: leBytes 4 v.toNat) = true →
      ((s.entry i).state ≠ .vacant →
        inType (s.entry i).width (s.entry i).signed (fieldValue (s.entry i).signed v) = true →
        exec (.preloadReference b v) s = .next ((s.setEntry i { s.entry i with
          reference := some (fieldValue (s.entry i).signed v) }).respond Response.okEmpty)) ∧
      ((s.entry i).state ≠ .vacant →
        inType (s.entry i).width (s.entry i).signed (fieldValue (s.entry i).signed v) = false →
        exec (.preloadReference b v) s = .next (s.respond (Response.refusal .badArg))) ∧
      ((s.entry i).state = .vacant →
        exec (.preloadReference b v) s = .next (s.respond (Response.refusal .state)))) ∧
    (s.delivers 0x26 [b] = true →
      ((s.entry i).state ≠ .vacant → exec (.forgetReference b) s = .next
        ((s.setEntry i { s.entry i with reference := none }).respond Response.okEmpty)) ∧
      ((s.entry i).state = .vacant → exec (.forgetReference b) s = .next (s.respond (Response.refusal .state)))) ∧
    (∀ f : Byte, s.delivers 0x27 [b, f] = true →
      (f.toNat < 64 → (s.entry i).state ≠ .vacant → exec (.clearSticky b f) s = .next
        ((s.setEntry i { s.entry i with sticky := (s.entry i).sticky &&& ~~~(f.setWidth 6) }).respond
          Response.okEmpty)) ∧
      (f.toNat < 64 → (s.entry i).state = .vacant →
        exec (.clearSticky b f) s = .next (s.respond (Response.refusal .state))) ∧
      (64 ≤ f.toNat → exec (.clearSticky b f) s = .next (s.respond (Response.refusal .badArg)))) ∧
    (s.delivers 0x28 [b] = true →
      ((s.entry i).state = .latched → exec (.releaseEntry b) s = .next ((s.setEntry i { s.entry i with
        state := .ready, violations := 0, mark := none
        remaining := if s.mode = .bypass then none else (s.entry i).period }).respond Response.okEmpty)) ∧
      ((s.entry i).state ≠ .latched → exec (.releaseEntry b) s = .next (s.respond (Response.refusal .state))))

/-- CONFIG_GROUP writes the timeout and the report-commit flag. An enable needs 2 to 8 members and leaves a round in progress
as it was; a disable of an OPEN group abandons its round with cause DISABLE and the remaining ticks as the value, and a
disable in COMMIT-WAIT is refused BUSY. A group number of 0 or above 8, and for CONFIG_GROUP a timeout of 0, is refused BADARG
(R55, R58, R59, R166). -/
def Obligations.ConfigGroupEnablesAndDisables : Prop :=
  (∀ (s : State) (g h : Fin 8) (x : Group) (i : Fin 48),
    (s.setGroup g x).group h = (if h = g then x else s.group h) ∧
    s.setGroup g x = { s with groups := (s.setGroup g x).groups } ∧
    (s.clearStaged g).stagedValue i = (if s.isMember g i then none else s.stagedValue i) ∧
    s.clearStaged g = { s with staged := (s.clearStaged g).staged }) ∧
  (∀ (s : State) (p : GroupPayload), s.delivers 0x30 (groupBytes p) = true →
    p.group.toNat = 0 ∨ 8 < p.group.toNat ∨ p.timeout = 0 →
    (p.flags.getLsbD 1 = true → exec (.configGroupEnable p) s = .next (s.respond (Response.refusal .badArg))) ∧
    (p.flags.getLsbD 1 = false → exec (.configGroupDisable p) s = .next (s.respond (Response.refusal .badArg)))) ∧
  (∀ (s : State) (b : Byte), s.delivers 0x31 [b] = true → b.toNat = 0 ∨ 8 < b.toNat →
    exec (.readGroup b) s = .next (s.respond (Response.refusal .badArg))) ∧
  ∀ (s : State) (p : GroupPayload) (g : Fin 8), p.group.toNat = g.val + 1 → p.timeout ≠ 0 →
    s.delivers 0x30 (groupBytes p) = true →
    (p.flags.getLsbD 1 = true →
      (2 ≤ (s.members g).length → (s.members g).length ≤ 8 → exec (.configGroupEnable p) s = .next
        ((s.setGroup g { s.group g with
          enabled := true, timeout := p.timeout.toNat, reportCommit := p.flags.getLsbD 0 }).respond
            Response.okEmpty)) ∧
      ((s.members g).length < 2 ∨ 8 < (s.members g).length →
        exec (.configGroupEnable p) s = .next (s.respond (Response.refusal .badArg)))) ∧
    (p.flags.getLsbD 1 = false →
      ((s.group g).state = .idle → exec (.configGroupDisable p) s = .next
        ((s.setGroup g { s.group g with
          enabled := false, timeout := p.timeout.toNat, reportCommit := p.flags.getLsbD 0 }).respond
            Response.okEmpty)) ∧
      ((s.group g).state = .opened → exec (.configGroupDisable p) s = .next
        ((((s.createRecord (.abandon (s.stagedMask g) .disable) (.group g) (s.lowestAddress g)
          (BitVec.ofNat 32 ((s.group g).remaining.getD 0))).clearStaged g).setGroup g { s.group g with
            enabled := false, timeout := p.timeout.toNat, reportCommit := p.flags.getLsbD 0, state := .idle
            remaining := none }).setCause 0x10 |>.respond Response.okEmpty)) ∧
      ((s.group g).state = .commitWait →
        exec (.configGroupDisable p) s = .next (s.respond (Response.refusal .busy))))

/-- CONFIG_RING in OFF or STOPPED sets the ring RUNNING at slot 0 of a region that no occupied entry meets, its records and
counters kept; in RUNNING or SUSPENDED it is refused STATE, and where an entry meets the region CONFLICT (R143). RING_OFF with
no posting in flight discards the records and the lost count; with one it is refused BUSY (R144). -/
def Obligations.RingConfiguredAndTurnedOff : Prop :=
  ∀ s : State,
    (∀ (base : Word) (n : Half), s.delivers 0x40 (leBytes 4 base.toNat ++ leBytes 2 n.toNat) = true →
      (s.ringState = .running ∨ s.ringState = .suspended →
        exec (.configRing base n) s = .next (s.respond (Response.refusal .state))) ∧
      (s.ringState = .off ∨ s.ringState = .stopped →
        (base.toNat % 16 ≠ 0 ∨ n.toNat < 8 ∨ 4096 < n.toNat ∨ 2 ^ 32 < base.toNat + 16 * n.toNat →
          exec (.configRing base n) s = .next (s.respond (Response.refusal .badArg))) ∧
        (base.toNat % 16 = 0 → 8 ≤ n.toNat → n.toNat ≤ 4096 → base.toNat + 16 * n.toNat ≤ 2 ^ 32 →
          (s.overlapsEntry base.toNat (16 * n.toNat) →
            exec (.configRing base n) s = .next (s.respond (Response.refusal .conflict))) ∧
          (¬ s.overlapsEntry base.toNat (16 * n.toNat) →
            exec (.configRing base n) s = .next ({ s with
              ringBase := base, ringSlots := n.toNat, head := 0, ringState := .running
              posting := .idle }.respond Response.okEmpty))))) ∧
    (s.delivers 0x41 [] = true →
      (s.posting = .idle → exec .ringOff s = .next ({ s with
        ringState := .off, records := [], lost := 0 }.respond Response.okEmpty)) ∧
      (s.posting ≠ .idle → exec .ringOff s = .next (s.respond (Response.refusal .busy))))

/-- RING_POLL by the ring state (R141): a SUSPENDED ring becomes RUNNING with a fresh posting, a RUNNING one is untouched, OFF
and STOPPED are refused STATE. Together with a completed release write, whichever comes second finds the ring RUNNING and has
no effect; together with the answer that suspends the ring, the poll taken second resumes it, and taken first has no effect
and the answer then suspends it. -/
def Obligations.RingPollActsByTheRingState : Prop :=
  ∀ s : State, s.delivers 0x42 [] = true →
    (s.ringState = .suspended → exec .ringPoll s = .next
      ({ s with ringState := .running, posting := .idle }.respond Response.okEmpty)) ∧
    (s.ringState = .running → exec .ringPoll s = .next (s.respond Response.okEmpty)) ∧
    (s.ringState = .off ∨ s.ringState = .stopped →
      exec .ringPoll s = .next (s.respond (Response.refusal .state))) ∧
    (∀ n q rest m d, s.ringState = .running → s.issueLog = { origin := .tqSlot n, request := q } :: rest →
      ∃ t, exec (.memoryAnswer m d) s = .next t ∧ t.ringState = .running ∧ t.posting = s.posting) ∧
    (∀ k q rest d, s.ringState = .running → s.posting = .reading →
      s.issueLog = { origin := .ringRead k, request := q } :: rest → d.getLsbD 31 = true →
      (∃ t u, exec (.memoryAnswer .ok d) s = .next t ∧ t.ringState = .suspended ∧ exec .ringPoll t = .next u ∧
        u.ringState = .running ∧ u.posting = .idle) ∧
      (∃ t u, exec .ringPoll s = .next t ∧ t.ringState = .running ∧ t.posting = .reading ∧
        exec (.memoryAnswer .ok d) t = .next u ∧ u.ringState = .suspended))

/-- SET_TICK takes lengths from 1 to 256 and leaves the interval in progress; SET_ALERT_MASK replaces the mask; ACK_ALERTS
clears the named causes and no other, and a cause set stands beside those set before (R145); each touches nothing else but
the held response (R108, R147, R176, R177). The alert output is active exactly while a cause is both set and enabled, and
never in device reset; so it follows the mask and the causes in the command's own event (R146, R185). -/
def Obligations.TickMaskAndCausesSet : Prop :=
  ∀ s : State,
    (∀ cause : Byte, s.setCause cause = { s with causes := s.causes ||| cause }) ∧
    (∀ n : Half, s.delivers 0x50 (leBytes 2 n.toNat) = true →
      (1 ≤ n.toNat → n.toNat ≤ 256 →
        exec (.setTick n) s = .next ({ s with tickLength := n.toNat }.respond Response.okEmpty)) ∧
      (n.toNat = 0 ∨ 256 < n.toNat →
        exec (.setTick n) s = .next (s.respond (Response.refusal .badArg)))) ∧
    (∀ b : Byte, s.delivers 0x60 [b] = true →
      exec (.setAlertMask b) s = .next ({ s with mask := b }.respond Response.okEmpty)) ∧
    (∀ b : Byte, s.delivers 0x61 [b] = true → ∃ t : State, exec (.ackAlerts b) s = .next (t.respond Response.okEmpty) ∧
      t = { s with causes := t.causes } ∧
      ∀ k, k < 8 → t.causes.getLsbD k = (s.causes.getLsbD k && !b.getLsbD k)) ∧
    (s.alertActive = true ↔ s.inReset = false ∧ ∃ k, k < 8 ∧ s.causes.getLsbD k = true ∧ s.mask.getLsbD k = true) ∧
    (∀ b : Byte, s.delivers 0x60 [b] = true → ∃ t, exec (.setAlertMask b) s = .next t ∧
      (t.alertActive = true ↔ ∃ k, k < 8 ∧ s.causes.getLsbD k = true ∧ b.getLsbD k = true)) ∧
    (∀ b : Byte, s.delivers 0x61 [b] = true → ∃ t, exec (.ackAlerts b) s = .next t ∧
      (t.alertActive = true ↔
        ∃ k, k < 8 ∧ s.causes.getLsbD k = true ∧ b.getLsbD k = false ∧ s.mask.getLsbD k = true))

/-- A command delivered by its select release outside device reset releases the line, and with a status other than OK it answers
length 0 and changes nothing else. In device reset, in a frame that is not one for the checker, and in a frame whose received
bytes are not this command's code, length, payload and CRC, whatever stands after them, or whose code requires another length,
the command changes nothing (R159, R161, R164, R165). That with select high it stands for its whole frame, and that a command
other than the one received does nothing, is the model's choice (notes/assumptions/7.md). An index above 47 is refused BADARG by
every command that names an entry (R22, R166). -/
def Obligations.RefusedCommandsChangeNothing : Prop :=
  (∀ (code : Byte) (payload : List Byte) (s : State), s.delivers code payload = true ↔
    s.inReset = false ∧ (s.frame = .idle ∨ s.frame = .opened ∧ s.frameCarries code payload)) ∧
  (∀ (c : Instr) (code : Byte) (payload : List Byte) (s : State), managementCommand c = some (code, payload) →
    (s.inReset = true ∨ s.frame = .void ∨ s.frame = .opened ∧ ¬ s.frameCarries code payload → exec c s = .next s) ∧
    (enableBitFits c → s.inReset = false → s.frame = .idle ∨ s.frame = .opened ∧ s.frameCarries code payload →
      ∃ t, exec c s = .next t ∧ t.frame = .idle ∧ t.receiver = [] ∧
        (t.held.status ≠ .ok → t = s.respond (Response.refusal t.held.status)))) ∧
  ∀ (s : State) (b : Byte), 48 ≤ b.toNat →
    (∀ p : LoadPayload, p.index = b → s.delivers 0x20 (loadBytes p) = true →
      exec (.loadEntry p) s = .next (s.respond (Response.refusal .badArg))) ∧
    (∀ p : TunePayload, p.index = b → s.delivers 0x21 (tuneBytes p) = true →
      exec (.tuneEntry p) s = .next (s.respond (Response.refusal .badArg))) ∧
    (∀ p : FreshPayload, p.index = b → s.delivers 0x22 (freshBytes p) = true →
      exec (.setFresh p) s = .next (s.respond (Response.refusal .badArg))) ∧
    (s.delivers 0x23 [b] = true → exec (.retireEntry b) s = .next (s.respond (Response.refusal .badArg))) ∧
    (s.delivers 0x24 [b] = true → exec (.readEntry b) s = .next (s.respond (Response.refusal .badArg))) ∧
    (s.delivers 0x26 [b] = true → exec (.forgetReference b) s = .next (s.respond (Response.refusal .badArg))) ∧
    (s.delivers 0x28 [b] = true → exec (.releaseEntry b) s = .next (s.respond (Response.refusal .badArg))) ∧
    (∀ v : Word, s.delivers 0x25 (b :: leBytes 4 v.toNat) = true →
      exec (.preloadReference b v) s = .next (s.respond (Response.refusal .badArg))) ∧
    (∀ f : Byte, s.delivers 0x27 [b, f] = true →
      exec (.clearSticky b f) s = .next (s.respond (Response.refusal .badArg)))

/-! ## Laws that every step keeps -/

/-- Every step keeps the queues within their capacities (R84, R91, R106, R130, R131). -/
def Obligations.StepKeepsCapacities : Prop := ∀ s t : State, s.Bounded → step s = .next t → t.Bounded

/-- Every step keeps the placement law, in states that keep the posting law (R16, R17, R143). -/
def Obligations.StepKeepsPlacementLaw : Prop :=
  ∀ s t : State, s.Placed → s.PostingLawful → step s = .next t → t.Placed

/-- Every step keeps the group law, membership and staging with it (R49 to R55). -/
def Obligations.StepKeepsGroupLaw : Prop := ∀ s t : State, s.GroupsLawful → step s = .next t → t.GroupsLawful

/-- Every step keeps the posting law: at most one posting request is outstanding, and exactly the one the Report Unit awaits
(R100, R132, R134). -/
def Obligations.StepKeepsPostingLaw : Prop :=
  ∀ s t : State, s.PostingLawful → step s = .next t → t.PostingLawful

/-- Every step keeps the deadline law of every entry (R10, R11, R111, R116, R120). -/
def Obligations.StepKeepsDeadlineLaw : Prop :=
  ∀ s t : State, s.DeadlinesLawful → step s = .next t → t.DeadlinesLawful

/-- Every step keeps the value law, of entries and staged values, in states that keep the group law (R2, R5, R6, R11). -/
def Obligations.StepKeepsValueLaw : Prop :=
  ∀ s t : State, s.ValuesLawful → s.GroupsLawful → step s = .next t → t.ValuesLawful

/-- Every step keeps the transit law: the slots hold the latest acceptance numbers in order, and the issue log names exactly
those that wait for memory (R75 to R78, R91). -/
def Obligations.StepKeepsTransitLaw : Prop :=
  ∀ s t : State, s.TransitLawful → step s = .next t → t.TransitLawful

/-- The reset state meets every law (R184 with each chapter's reset rule). -/
def Obligations.ResetStateIsLawful : Prop :=
  State.reset.Bounded ∧ State.reset.Placed ∧ State.reset.GroupsLawful ∧ State.reset.PostingLawful ∧
    State.reset.DeadlinesLawful ∧ State.reset.ValuesLawful ∧ State.reset.TransitLawful
end

