-- ==== Sys2Proof/Laws/State.lean ====
section
/-! SUPPORT. One lemma per field and update of the state, and what the accessors read after each update. -/

namespace Sys2Proof.Machine

variable (s : State) (i j : Fin 48) (g h : Fin 8)

/-! ## setEntry -/

@[simp] theorem State.setEntry_pending (e : Entry) : (s.setEntry i e).pending = s.pending := rfl
@[simp] theorem State.setEntry_inReset (e : Entry) : (s.setEntry i e).inReset = s.inReset := rfl
@[simp] theorem State.setEntry_presented (e : Entry) : (s.setEntry i e).presented = s.presented := rfl
@[simp] theorem State.setEntry_npAnswer (e : Entry) : (s.setEntry i e).npAnswer = s.npAnswer := rfl
@[simp] theorem State.setEntry_slots (e : Entry) : (s.setEntry i e).slots = s.slots := rfl
@[simp] theorem State.setEntry_accepted (e : Entry) : (s.setEntry i e).accepted = s.accepted := rfl
@[simp] theorem State.setEntry_groups (e : Entry) : (s.setEntry i e).groups = s.groups := rfl
@[simp] theorem State.setEntry_staged (e : Entry) : (s.setEntry i e).staged = s.staged := rfl
@[simp] theorem State.setEntry_commitWait (e : Entry) : (s.setEntry i e).commitWait = s.commitWait := rfl
@[simp] theorem State.setEntry_commitBuffer (e : Entry) : (s.setEntry i e).commitBuffer = s.commitBuffer := rfl
@[simp] theorem State.setEntry_fpRequest (e : Entry) : (s.setEntry i e).fpRequest = s.fpRequest := rfl
@[simp] theorem State.setEntry_issueLog (e : Entry) : (s.setEntry i e).issueLog = s.issueLog := rfl
@[simp] theorem State.setEntry_drain (e : Entry) : (s.setEntry i e).drain = s.drain := rfl
@[simp] theorem State.setEntry_tickLength (e : Entry) : (s.setEntry i e).tickLength = s.tickLength := rfl
@[simp] theorem State.setEntry_intervalLength (e : Entry) : (s.setEntry i e).intervalLength = s.intervalLength := rfl
@[simp] theorem State.setEntry_clkCount (e : Entry) : (s.setEntry i e).clkCount = s.clkCount := rfl
@[simp] theorem State.setEntry_usCount (e : Entry) : (s.setEntry i e).usCount = s.usCount := rfl
@[simp] theorem State.setEntry_tickCounter (e : Entry) : (s.setEntry i e).tickCounter = s.tickCounter := rfl
@[simp] theorem State.setEntry_records (e : Entry) : (s.setEntry i e).records = s.records := rfl
@[simp] theorem State.setEntry_sequence (e : Entry) : (s.setEntry i e).sequence = s.sequence := rfl
@[simp] theorem State.setEntry_lost (e : Entry) : (s.setEntry i e).lost = s.lost := rfl
@[simp] theorem State.setEntry_ringState (e : Entry) : (s.setEntry i e).ringState = s.ringState := rfl
@[simp] theorem State.setEntry_ringBase (e : Entry) : (s.setEntry i e).ringBase = s.ringBase := rfl
@[simp] theorem State.setEntry_ringSlots (e : Entry) : (s.setEntry i e).ringSlots = s.ringSlots := rfl
@[simp] theorem State.setEntry_head (e : Entry) : (s.setEntry i e).head = s.head := rfl
@[simp] theorem State.setEntry_posting (e : Entry) : (s.setEntry i e).posting = s.posting := rfl
@[simp] theorem State.setEntry_causes (e : Entry) : (s.setEntry i e).causes = s.causes := rfl
@[simp] theorem State.setEntry_mask (e : Entry) : (s.setEntry i e).mask = s.mask := rfl
@[simp] theorem State.setEntry_mode (e : Entry) : (s.setEntry i e).mode = s.mode := rfl
@[simp] theorem State.setEntry_frame (e : Entry) : (s.setEntry i e).frame = s.frame := rfl
@[simp] theorem State.setEntry_receiver (e : Entry) : (s.setEntry i e).receiver = s.receiver := rfl
@[simp] theorem State.setEntry_held (e : Entry) : (s.setEntry i e).held = s.held := rfl
@[simp] theorem State.setEntry_outByte (e : Entry) : (s.setEntry i e).outByte = s.outByte := rfl

/-! ## mapEntries -/

@[simp] theorem State.mapEntries_pending (f : Fin 48 → Entry → Entry) : (s.mapEntries f).pending = s.pending := rfl
@[simp] theorem State.mapEntries_inReset (f : Fin 48 → Entry → Entry) : (s.mapEntries f).inReset = s.inReset := rfl
@[simp] theorem State.mapEntries_presented (f : Fin 48 → Entry → Entry) : (s.mapEntries f).presented = s.presented := rfl
@[simp] theorem State.mapEntries_npAnswer (f : Fin 48 → Entry → Entry) : (s.mapEntries f).npAnswer = s.npAnswer := rfl
@[simp] theorem State.mapEntries_slots (f : Fin 48 → Entry → Entry) : (s.mapEntries f).slots = s.slots := rfl
@[simp] theorem State.mapEntries_accepted (f : Fin 48 → Entry → Entry) : (s.mapEntries f).accepted = s.accepted := rfl
@[simp] theorem State.mapEntries_groups (f : Fin 48 → Entry → Entry) : (s.mapEntries f).groups = s.groups := rfl
@[simp] theorem State.mapEntries_staged (f : Fin 48 → Entry → Entry) : (s.mapEntries f).staged = s.staged := rfl
@[simp] theorem State.mapEntries_commitWait (f : Fin 48 → Entry → Entry) : (s.mapEntries f).commitWait = s.commitWait := rfl
@[simp] theorem State.mapEntries_commitBuffer (f : Fin 48 → Entry → Entry) : (s.mapEntries f).commitBuffer = s.commitBuffer := rfl
@[simp] theorem State.mapEntries_fpRequest (f : Fin 48 → Entry → Entry) : (s.mapEntries f).fpRequest = s.fpRequest := rfl
@[simp] theorem State.mapEntries_issueLog (f : Fin 48 → Entry → Entry) : (s.mapEntries f).issueLog = s.issueLog := rfl
@[simp] theorem State.mapEntries_drain (f : Fin 48 → Entry → Entry) : (s.mapEntries f).drain = s.drain := rfl
@[simp] theorem State.mapEntries_tickLength (f : Fin 48 → Entry → Entry) : (s.mapEntries f).tickLength = s.tickLength := rfl
@[simp] theorem State.mapEntries_intervalLength (f : Fin 48 → Entry → Entry) : (s.mapEntries f).intervalLength = s.intervalLength := rfl
@[simp] theorem State.mapEntries_clkCount (f : Fin 48 → Entry → Entry) : (s.mapEntries f).clkCount = s.clkCount := rfl
@[simp] theorem State.mapEntries_usCount (f : Fin 48 → Entry → Entry) : (s.mapEntries f).usCount = s.usCount := rfl
@[simp] theorem State.mapEntries_tickCounter (f : Fin 48 → Entry → Entry) : (s.mapEntries f).tickCounter = s.tickCounter := rfl
@[simp] theorem State.mapEntries_records (f : Fin 48 → Entry → Entry) : (s.mapEntries f).records = s.records := rfl
@[simp] theorem State.mapEntries_sequence (f : Fin 48 → Entry → Entry) : (s.mapEntries f).sequence = s.sequence := rfl
@[simp] theorem State.mapEntries_lost (f : Fin 48 → Entry → Entry) : (s.mapEntries f).lost = s.lost := rfl
@[simp] theorem State.mapEntries_ringState (f : Fin 48 → Entry → Entry) : (s.mapEntries f).ringState = s.ringState := rfl
@[simp] theorem State.mapEntries_ringBase (f : Fin 48 → Entry → Entry) : (s.mapEntries f).ringBase = s.ringBase := rfl
@[simp] theorem State.mapEntries_ringSlots (f : Fin 48 → Entry → Entry) : (s.mapEntries f).ringSlots = s.ringSlots := rfl
@[simp] theorem State.mapEntries_head (f : Fin 48 → Entry → Entry) : (s.mapEntries f).head = s.head := rfl
@[simp] theorem State.mapEntries_posting (f : Fin 48 → Entry → Entry) : (s.mapEntries f).posting = s.posting := rfl
@[simp] theorem State.mapEntries_causes (f : Fin 48 → Entry → Entry) : (s.mapEntries f).causes = s.causes := rfl
@[simp] theorem State.mapEntries_mask (f : Fin 48 → Entry → Entry) : (s.mapEntries f).mask = s.mask := rfl
@[simp] theorem State.mapEntries_mode (f : Fin 48 → Entry → Entry) : (s.mapEntries f).mode = s.mode := rfl
@[simp] theorem State.mapEntries_frame (f : Fin 48 → Entry → Entry) : (s.mapEntries f).frame = s.frame := rfl
@[simp] theorem State.mapEntries_receiver (f : Fin 48 → Entry → Entry) : (s.mapEntries f).receiver = s.receiver := rfl
@[simp] theorem State.mapEntries_held (f : Fin 48 → Entry → Entry) : (s.mapEntries f).held = s.held := rfl
@[simp] theorem State.mapEntries_outByte (f : Fin 48 → Entry → Entry) : (s.mapEntries f).outByte = s.outByte := rfl

/-! ## setGroup -/

@[simp] theorem State.setGroup_pending (x : Group) : (s.setGroup g x).pending = s.pending := rfl
@[simp] theorem State.setGroup_inReset (x : Group) : (s.setGroup g x).inReset = s.inReset := rfl
@[simp] theorem State.setGroup_presented (x : Group) : (s.setGroup g x).presented = s.presented := rfl
@[simp] theorem State.setGroup_npAnswer (x : Group) : (s.setGroup g x).npAnswer = s.npAnswer := rfl
@[simp] theorem State.setGroup_slots (x : Group) : (s.setGroup g x).slots = s.slots := rfl
@[simp] theorem State.setGroup_accepted (x : Group) : (s.setGroup g x).accepted = s.accepted := rfl
@[simp] theorem State.setGroup_entries (x : Group) : (s.setGroup g x).entries = s.entries := rfl
@[simp] theorem State.setGroup_staged (x : Group) : (s.setGroup g x).staged = s.staged := rfl
@[simp] theorem State.setGroup_commitWait (x : Group) : (s.setGroup g x).commitWait = s.commitWait := rfl
@[simp] theorem State.setGroup_commitBuffer (x : Group) : (s.setGroup g x).commitBuffer = s.commitBuffer := rfl
@[simp] theorem State.setGroup_fpRequest (x : Group) : (s.setGroup g x).fpRequest = s.fpRequest := rfl
@[simp] theorem State.setGroup_issueLog (x : Group) : (s.setGroup g x).issueLog = s.issueLog := rfl
@[simp] theorem State.setGroup_drain (x : Group) : (s.setGroup g x).drain = s.drain := rfl
@[simp] theorem State.setGroup_tickLength (x : Group) : (s.setGroup g x).tickLength = s.tickLength := rfl
@[simp] theorem State.setGroup_intervalLength (x : Group) : (s.setGroup g x).intervalLength = s.intervalLength := rfl
@[simp] theorem State.setGroup_clkCount (x : Group) : (s.setGroup g x).clkCount = s.clkCount := rfl
@[simp] theorem State.setGroup_usCount (x : Group) : (s.setGroup g x).usCount = s.usCount := rfl
@[simp] theorem State.setGroup_tickCounter (x : Group) : (s.setGroup g x).tickCounter = s.tickCounter := rfl
@[simp] theorem State.setGroup_records (x : Group) : (s.setGroup g x).records = s.records := rfl
@[simp] theorem State.setGroup_sequence (x : Group) : (s.setGroup g x).sequence = s.sequence := rfl
@[simp] theorem State.setGroup_lost (x : Group) : (s.setGroup g x).lost = s.lost := rfl
@[simp] theorem State.setGroup_ringState (x : Group) : (s.setGroup g x).ringState = s.ringState := rfl
@[simp] theorem State.setGroup_ringBase (x : Group) : (s.setGroup g x).ringBase = s.ringBase := rfl
@[simp] theorem State.setGroup_ringSlots (x : Group) : (s.setGroup g x).ringSlots = s.ringSlots := rfl
@[simp] theorem State.setGroup_head (x : Group) : (s.setGroup g x).head = s.head := rfl
@[simp] theorem State.setGroup_posting (x : Group) : (s.setGroup g x).posting = s.posting := rfl
@[simp] theorem State.setGroup_causes (x : Group) : (s.setGroup g x).causes = s.causes := rfl
@[simp] theorem State.setGroup_mask (x : Group) : (s.setGroup g x).mask = s.mask := rfl
@[simp] theorem State.setGroup_mode (x : Group) : (s.setGroup g x).mode = s.mode := rfl
@[simp] theorem State.setGroup_frame (x : Group) : (s.setGroup g x).frame = s.frame := rfl
@[simp] theorem State.setGroup_receiver (x : Group) : (s.setGroup g x).receiver = s.receiver := rfl
@[simp] theorem State.setGroup_held (x : Group) : (s.setGroup g x).held = s.held := rfl
@[simp] theorem State.setGroup_outByte (x : Group) : (s.setGroup g x).outByte = s.outByte := rfl

/-! ## setStaged -/

@[simp] theorem State.setStaged_pending (v : Option Int) : (s.setStaged i v).pending = s.pending := rfl
@[simp] theorem State.setStaged_inReset (v : Option Int) : (s.setStaged i v).inReset = s.inReset := rfl
@[simp] theorem State.setStaged_presented (v : Option Int) : (s.setStaged i v).presented = s.presented := rfl
@[simp] theorem State.setStaged_npAnswer (v : Option Int) : (s.setStaged i v).npAnswer = s.npAnswer := rfl
@[simp] theorem State.setStaged_slots (v : Option Int) : (s.setStaged i v).slots = s.slots := rfl
@[simp] theorem State.setStaged_accepted (v : Option Int) : (s.setStaged i v).accepted = s.accepted := rfl
@[simp] theorem State.setStaged_entries (v : Option Int) : (s.setStaged i v).entries = s.entries := rfl
@[simp] theorem State.setStaged_groups (v : Option Int) : (s.setStaged i v).groups = s.groups := rfl
@[simp] theorem State.setStaged_commitWait (v : Option Int) : (s.setStaged i v).commitWait = s.commitWait := rfl
@[simp] theorem State.setStaged_commitBuffer (v : Option Int) : (s.setStaged i v).commitBuffer = s.commitBuffer := rfl
@[simp] theorem State.setStaged_fpRequest (v : Option Int) : (s.setStaged i v).fpRequest = s.fpRequest := rfl
@[simp] theorem State.setStaged_issueLog (v : Option Int) : (s.setStaged i v).issueLog = s.issueLog := rfl
@[simp] theorem State.setStaged_drain (v : Option Int) : (s.setStaged i v).drain = s.drain := rfl
@[simp] theorem State.setStaged_tickLength (v : Option Int) : (s.setStaged i v).tickLength = s.tickLength := rfl
@[simp] theorem State.setStaged_intervalLength (v : Option Int) : (s.setStaged i v).intervalLength = s.intervalLength := rfl
@[simp] theorem State.setStaged_clkCount (v : Option Int) : (s.setStaged i v).clkCount = s.clkCount := rfl
@[simp] theorem State.setStaged_usCount (v : Option Int) : (s.setStaged i v).usCount = s.usCount := rfl
@[simp] theorem State.setStaged_tickCounter (v : Option Int) : (s.setStaged i v).tickCounter = s.tickCounter := rfl
@[simp] theorem State.setStaged_records (v : Option Int) : (s.setStaged i v).records = s.records := rfl
@[simp] theorem State.setStaged_sequence (v : Option Int) : (s.setStaged i v).sequence = s.sequence := rfl
@[simp] theorem State.setStaged_lost (v : Option Int) : (s.setStaged i v).lost = s.lost := rfl
@[simp] theorem State.setStaged_ringState (v : Option Int) : (s.setStaged i v).ringState = s.ringState := rfl
@[simp] theorem State.setStaged_ringBase (v : Option Int) : (s.setStaged i v).ringBase = s.ringBase := rfl
@[simp] theorem State.setStaged_ringSlots (v : Option Int) : (s.setStaged i v).ringSlots = s.ringSlots := rfl
@[simp] theorem State.setStaged_head (v : Option Int) : (s.setStaged i v).head = s.head := rfl
@[simp] theorem State.setStaged_posting (v : Option Int) : (s.setStaged i v).posting = s.posting := rfl
@[simp] theorem State.setStaged_causes (v : Option Int) : (s.setStaged i v).causes = s.causes := rfl
@[simp] theorem State.setStaged_mask (v : Option Int) : (s.setStaged i v).mask = s.mask := rfl
@[simp] theorem State.setStaged_mode (v : Option Int) : (s.setStaged i v).mode = s.mode := rfl
@[simp] theorem State.setStaged_frame (v : Option Int) : (s.setStaged i v).frame = s.frame := rfl
@[simp] theorem State.setStaged_receiver (v : Option Int) : (s.setStaged i v).receiver = s.receiver := rfl
@[simp] theorem State.setStaged_held (v : Option Int) : (s.setStaged i v).held = s.held := rfl
@[simp] theorem State.setStaged_outByte (v : Option Int) : (s.setStaged i v).outByte = s.outByte := rfl

/-! ## clearStaged -/

@[simp] theorem State.clearStaged_pending : (s.clearStaged g).pending = s.pending := rfl
@[simp] theorem State.clearStaged_inReset : (s.clearStaged g).inReset = s.inReset := rfl
@[simp] theorem State.clearStaged_presented : (s.clearStaged g).presented = s.presented := rfl
@[simp] theorem State.clearStaged_npAnswer : (s.clearStaged g).npAnswer = s.npAnswer := rfl
@[simp] theorem State.clearStaged_slots : (s.clearStaged g).slots = s.slots := rfl
@[simp] theorem State.clearStaged_accepted : (s.clearStaged g).accepted = s.accepted := rfl
@[simp] theorem State.clearStaged_entries : (s.clearStaged g).entries = s.entries := rfl
@[simp] theorem State.clearStaged_groups : (s.clearStaged g).groups = s.groups := rfl
@[simp] theorem State.clearStaged_commitWait : (s.clearStaged g).commitWait = s.commitWait := rfl
@[simp] theorem State.clearStaged_commitBuffer : (s.clearStaged g).commitBuffer = s.commitBuffer := rfl
@[simp] theorem State.clearStaged_fpRequest : (s.clearStaged g).fpRequest = s.fpRequest := rfl
@[simp] theorem State.clearStaged_issueLog : (s.clearStaged g).issueLog = s.issueLog := rfl
@[simp] theorem State.clearStaged_drain : (s.clearStaged g).drain = s.drain := rfl
@[simp] theorem State.clearStaged_tickLength : (s.clearStaged g).tickLength = s.tickLength := rfl
@[simp] theorem State.clearStaged_intervalLength : (s.clearStaged g).intervalLength = s.intervalLength := rfl
@[simp] theorem State.clearStaged_clkCount : (s.clearStaged g).clkCount = s.clkCount := rfl
@[simp] theorem State.clearStaged_usCount : (s.clearStaged g).usCount = s.usCount := rfl
@[simp] theorem State.clearStaged_tickCounter : (s.clearStaged g).tickCounter = s.tickCounter := rfl
@[simp] theorem State.clearStaged_records : (s.clearStaged g).records = s.records := rfl
@[simp] theorem State.clearStaged_sequence : (s.clearStaged g).sequence = s.sequence := rfl
@[simp] theorem State.clearStaged_lost : (s.clearStaged g).lost = s.lost := rfl
@[simp] theorem State.clearStaged_ringState : (s.clearStaged g).ringState = s.ringState := rfl
@[simp] theorem State.clearStaged_ringBase : (s.clearStaged g).ringBase = s.ringBase := rfl
@[simp] theorem State.clearStaged_ringSlots : (s.clearStaged g).ringSlots = s.ringSlots := rfl
@[simp] theorem State.clearStaged_head : (s.clearStaged g).head = s.head := rfl
@[simp] theorem State.clearStaged_posting : (s.clearStaged g).posting = s.posting := rfl
@[simp] theorem State.clearStaged_causes : (s.clearStaged g).causes = s.causes := rfl
@[simp] theorem State.clearStaged_mask : (s.clearStaged g).mask = s.mask := rfl
@[simp] theorem State.clearStaged_mode : (s.clearStaged g).mode = s.mode := rfl
@[simp] theorem State.clearStaged_frame : (s.clearStaged g).frame = s.frame := rfl
@[simp] theorem State.clearStaged_receiver : (s.clearStaged g).receiver = s.receiver := rfl
@[simp] theorem State.clearStaged_held : (s.clearStaged g).held = s.held := rfl
@[simp] theorem State.clearStaged_outByte : (s.clearStaged g).outByte = s.outByte := rfl

/-! ## setCause -/

@[simp] theorem State.setCause_pending (c : Byte) : (s.setCause c).pending = s.pending := rfl
@[simp] theorem State.setCause_inReset (c : Byte) : (s.setCause c).inReset = s.inReset := rfl
@[simp] theorem State.setCause_presented (c : Byte) : (s.setCause c).presented = s.presented := rfl
@[simp] theorem State.setCause_npAnswer (c : Byte) : (s.setCause c).npAnswer = s.npAnswer := rfl
@[simp] theorem State.setCause_slots (c : Byte) : (s.setCause c).slots = s.slots := rfl
@[simp] theorem State.setCause_accepted (c : Byte) : (s.setCause c).accepted = s.accepted := rfl
@[simp] theorem State.setCause_entries (c : Byte) : (s.setCause c).entries = s.entries := rfl
@[simp] theorem State.setCause_groups (c : Byte) : (s.setCause c).groups = s.groups := rfl
@[simp] theorem State.setCause_staged (c : Byte) : (s.setCause c).staged = s.staged := rfl
@[simp] theorem State.setCause_commitWait (c : Byte) : (s.setCause c).commitWait = s.commitWait := rfl
@[simp] theorem State.setCause_commitBuffer (c : Byte) : (s.setCause c).commitBuffer = s.commitBuffer := rfl
@[simp] theorem State.setCause_fpRequest (c : Byte) : (s.setCause c).fpRequest = s.fpRequest := rfl
@[simp] theorem State.setCause_issueLog (c : Byte) : (s.setCause c).issueLog = s.issueLog := rfl
@[simp] theorem State.setCause_drain (c : Byte) : (s.setCause c).drain = s.drain := rfl
@[simp] theorem State.setCause_tickLength (c : Byte) : (s.setCause c).tickLength = s.tickLength := rfl
@[simp] theorem State.setCause_intervalLength (c : Byte) : (s.setCause c).intervalLength = s.intervalLength := rfl
@[simp] theorem State.setCause_clkCount (c : Byte) : (s.setCause c).clkCount = s.clkCount := rfl
@[simp] theorem State.setCause_usCount (c : Byte) : (s.setCause c).usCount = s.usCount := rfl
@[simp] theorem State.setCause_tickCounter (c : Byte) : (s.setCause c).tickCounter = s.tickCounter := rfl
@[simp] theorem State.setCause_records (c : Byte) : (s.setCause c).records = s.records := rfl
@[simp] theorem State.setCause_sequence (c : Byte) : (s.setCause c).sequence = s.sequence := rfl
@[simp] theorem State.setCause_lost (c : Byte) : (s.setCause c).lost = s.lost := rfl
@[simp] theorem State.setCause_ringState (c : Byte) : (s.setCause c).ringState = s.ringState := rfl
@[simp] theorem State.setCause_ringBase (c : Byte) : (s.setCause c).ringBase = s.ringBase := rfl
@[simp] theorem State.setCause_ringSlots (c : Byte) : (s.setCause c).ringSlots = s.ringSlots := rfl
@[simp] theorem State.setCause_head (c : Byte) : (s.setCause c).head = s.head := rfl
@[simp] theorem State.setCause_posting (c : Byte) : (s.setCause c).posting = s.posting := rfl
@[simp] theorem State.setCause_mask (c : Byte) : (s.setCause c).mask = s.mask := rfl
@[simp] theorem State.setCause_mode (c : Byte) : (s.setCause c).mode = s.mode := rfl
@[simp] theorem State.setCause_frame (c : Byte) : (s.setCause c).frame = s.frame := rfl
@[simp] theorem State.setCause_receiver (c : Byte) : (s.setCause c).receiver = s.receiver := rfl
@[simp] theorem State.setCause_held (c : Byte) : (s.setCause c).held = s.held := rfl
@[simp] theorem State.setCause_outByte (c : Byte) : (s.setCause c).outByte = s.outByte := rfl

/-! ## issueRequest -/

@[simp] theorem State.issueRequest_pending (o : Origin) (r : FpRequest) : (s.issueRequest o r).pending = s.pending := rfl
@[simp] theorem State.issueRequest_inReset (o : Origin) (r : FpRequest) : (s.issueRequest o r).inReset = s.inReset := rfl
@[simp] theorem State.issueRequest_presented (o : Origin) (r : FpRequest) : (s.issueRequest o r).presented = s.presented := rfl
@[simp] theorem State.issueRequest_npAnswer (o : Origin) (r : FpRequest) : (s.issueRequest o r).npAnswer = s.npAnswer := rfl
@[simp] theorem State.issueRequest_slots (o : Origin) (r : FpRequest) : (s.issueRequest o r).slots = s.slots := rfl
@[simp] theorem State.issueRequest_accepted (o : Origin) (r : FpRequest) : (s.issueRequest o r).accepted = s.accepted := rfl
@[simp] theorem State.issueRequest_entries (o : Origin) (r : FpRequest) : (s.issueRequest o r).entries = s.entries := rfl
@[simp] theorem State.issueRequest_groups (o : Origin) (r : FpRequest) : (s.issueRequest o r).groups = s.groups := rfl
@[simp] theorem State.issueRequest_staged (o : Origin) (r : FpRequest) : (s.issueRequest o r).staged = s.staged := rfl
@[simp] theorem State.issueRequest_commitWait (o : Origin) (r : FpRequest) : (s.issueRequest o r).commitWait = s.commitWait := rfl
@[simp] theorem State.issueRequest_commitBuffer (o : Origin) (r : FpRequest) : (s.issueRequest o r).commitBuffer = s.commitBuffer := rfl
@[simp] theorem State.issueRequest_drain (o : Origin) (r : FpRequest) : (s.issueRequest o r).drain = s.drain := rfl
@[simp] theorem State.issueRequest_tickLength (o : Origin) (r : FpRequest) : (s.issueRequest o r).tickLength = s.tickLength := rfl
@[simp] theorem State.issueRequest_intervalLength (o : Origin) (r : FpRequest) : (s.issueRequest o r).intervalLength = s.intervalLength := rfl
@[simp] theorem State.issueRequest_clkCount (o : Origin) (r : FpRequest) : (s.issueRequest o r).clkCount = s.clkCount := rfl
@[simp] theorem State.issueRequest_usCount (o : Origin) (r : FpRequest) : (s.issueRequest o r).usCount = s.usCount := rfl
@[simp] theorem State.issueRequest_tickCounter (o : Origin) (r : FpRequest) : (s.issueRequest o r).tickCounter = s.tickCounter := rfl
@[simp] theorem State.issueRequest_records (o : Origin) (r : FpRequest) : (s.issueRequest o r).records = s.records := rfl
@[simp] theorem State.issueRequest_sequence (o : Origin) (r : FpRequest) : (s.issueRequest o r).sequence = s.sequence := rfl
@[simp] theorem State.issueRequest_lost (o : Origin) (r : FpRequest) : (s.issueRequest o r).lost = s.lost := rfl
@[simp] theorem State.issueRequest_ringState (o : Origin) (r : FpRequest) : (s.issueRequest o r).ringState = s.ringState := rfl
@[simp] theorem State.issueRequest_ringBase (o : Origin) (r : FpRequest) : (s.issueRequest o r).ringBase = s.ringBase := rfl
@[simp] theorem State.issueRequest_ringSlots (o : Origin) (r : FpRequest) : (s.issueRequest o r).ringSlots = s.ringSlots := rfl
@[simp] theorem State.issueRequest_head (o : Origin) (r : FpRequest) : (s.issueRequest o r).head = s.head := rfl
@[simp] theorem State.issueRequest_posting (o : Origin) (r : FpRequest) : (s.issueRequest o r).posting = s.posting := rfl
@[simp] theorem State.issueRequest_causes (o : Origin) (r : FpRequest) : (s.issueRequest o r).causes = s.causes := rfl
@[simp] theorem State.issueRequest_mask (o : Origin) (r : FpRequest) : (s.issueRequest o r).mask = s.mask := rfl
@[simp] theorem State.issueRequest_mode (o : Origin) (r : FpRequest) : (s.issueRequest o r).mode = s.mode := rfl
@[simp] theorem State.issueRequest_frame (o : Origin) (r : FpRequest) : (s.issueRequest o r).frame = s.frame := rfl
@[simp] theorem State.issueRequest_receiver (o : Origin) (r : FpRequest) : (s.issueRequest o r).receiver = s.receiver := rfl
@[simp] theorem State.issueRequest_held (o : Origin) (r : FpRequest) : (s.issueRequest o r).held = s.held := rfl
@[simp] theorem State.issueRequest_outByte (o : Origin) (r : FpRequest) : (s.issueRequest o r).outByte = s.outByte := rfl

/-! ## releaseSelect -/

@[simp] theorem State.releaseSelect_pending : (s.releaseSelect).pending = s.pending := rfl
@[simp] theorem State.releaseSelect_inReset : (s.releaseSelect).inReset = s.inReset := rfl
@[simp] theorem State.releaseSelect_presented : (s.releaseSelect).presented = s.presented := rfl
@[simp] theorem State.releaseSelect_npAnswer : (s.releaseSelect).npAnswer = s.npAnswer := rfl
@[simp] theorem State.releaseSelect_slots : (s.releaseSelect).slots = s.slots := rfl
@[simp] theorem State.releaseSelect_accepted : (s.releaseSelect).accepted = s.accepted := rfl
@[simp] theorem State.releaseSelect_entries : (s.releaseSelect).entries = s.entries := rfl
@[simp] theorem State.releaseSelect_groups : (s.releaseSelect).groups = s.groups := rfl
@[simp] theorem State.releaseSelect_staged : (s.releaseSelect).staged = s.staged := rfl
@[simp] theorem State.releaseSelect_commitWait : (s.releaseSelect).commitWait = s.commitWait := rfl
@[simp] theorem State.releaseSelect_commitBuffer : (s.releaseSelect).commitBuffer = s.commitBuffer := rfl
@[simp] theorem State.releaseSelect_fpRequest : (s.releaseSelect).fpRequest = s.fpRequest := rfl
@[simp] theorem State.releaseSelect_issueLog : (s.releaseSelect).issueLog = s.issueLog := rfl
@[simp] theorem State.releaseSelect_drain : (s.releaseSelect).drain = s.drain := rfl
@[simp] theorem State.releaseSelect_tickLength : (s.releaseSelect).tickLength = s.tickLength := rfl
@[simp] theorem State.releaseSelect_intervalLength : (s.releaseSelect).intervalLength = s.intervalLength := rfl
@[simp] theorem State.releaseSelect_clkCount : (s.releaseSelect).clkCount = s.clkCount := rfl
@[simp] theorem State.releaseSelect_usCount : (s.releaseSelect).usCount = s.usCount := rfl
@[simp] theorem State.releaseSelect_tickCounter : (s.releaseSelect).tickCounter = s.tickCounter := rfl
@[simp] theorem State.releaseSelect_records : (s.releaseSelect).records = s.records := rfl
@[simp] theorem State.releaseSelect_sequence : (s.releaseSelect).sequence = s.sequence := rfl
@[simp] theorem State.releaseSelect_lost : (s.releaseSelect).lost = s.lost := rfl
@[simp] theorem State.releaseSelect_ringState : (s.releaseSelect).ringState = s.ringState := rfl
@[simp] theorem State.releaseSelect_ringBase : (s.releaseSelect).ringBase = s.ringBase := rfl
@[simp] theorem State.releaseSelect_ringSlots : (s.releaseSelect).ringSlots = s.ringSlots := rfl
@[simp] theorem State.releaseSelect_head : (s.releaseSelect).head = s.head := rfl
@[simp] theorem State.releaseSelect_posting : (s.releaseSelect).posting = s.posting := rfl
@[simp] theorem State.releaseSelect_causes : (s.releaseSelect).causes = s.causes := rfl
@[simp] theorem State.releaseSelect_mask : (s.releaseSelect).mask = s.mask := rfl
@[simp] theorem State.releaseSelect_mode : (s.releaseSelect).mode = s.mode := rfl
@[simp] theorem State.releaseSelect_held : (s.releaseSelect).held = s.held := rfl

/-! ## What the accessors read -/

/-- A table read at a place. -/
@[simp] theorem tabulate_getElem {α : Type} {n : Nat} (f : Fin n → α) (k : Nat) (hk : k < n) :
    (tabulate f)[k] = f ⟨k, hk⟩ := by
  unfold tabulate
  simp

@[simp] theorem State.setCause_causes (c : Byte) : (s.setCause c).causes = s.causes ||| c := rfl

@[simp] theorem State.issueRequest_issueLog (o : Origin) (r : FpRequest) :
    (s.issueRequest o r).issueLog = s.issueLog ++ [{ origin := o, request := r }] := rfl

@[simp] theorem State.issueRequest_fpRequest (o : Origin) (r : FpRequest) :
    (s.issueRequest o r).fpRequest = some r := rfl

@[simp] theorem State.releaseSelect_frame : s.releaseSelect.frame = .idle := rfl
@[simp] theorem State.releaseSelect_receiver : s.releaseSelect.receiver = [] := rfl
@[simp] theorem State.releaseSelect_outByte : s.releaseSelect.outByte = none := rfl

/-- The entry just set is the one read. -/
@[simp] theorem State.entry_setEntry_self (e : Entry) : (s.setEntry i e).entry i = e := by
  simp [State.entry, State.setEntry]

/-- Every other entry is unchanged. -/
theorem State.entry_setEntry_ne (e : Entry) (hne : i ≠ j) : (s.setEntry i e).entry j = s.entry j := by
  have : i.val ≠ j.val := fun hv => hne (Fin.ext hv)
  simp [State.entry, State.setEntry, this]

theorem State.entry_setEntry (e : Entry) : (s.setEntry i e).entry j = if i = j then e else s.entry j := by
  by_cases hij : i = j
  · subst hij; simp
  · simp [hij, State.entry_setEntry_ne]

@[simp] theorem State.entry_mapEntries (f : Fin 48 → Entry → Entry) :
    (s.mapEntries f).entry i = f i (s.entry i) := by
  simp [State.entry, State.mapEntries]

@[simp] theorem State.group_setGroup_self (x : Group) : (s.setGroup g x).group g = x := by
  simp [State.group, State.setGroup]

theorem State.group_setGroup_ne (x : Group) (hne : g ≠ h) : (s.setGroup g x).group h = s.group h := by
  have : g.val ≠ h.val := fun hv => hne (Fin.ext hv)
  simp [State.group, State.setGroup, this]

theorem State.group_setGroup (x : Group) : (s.setGroup g x).group h = if g = h then x else s.group h := by
  by_cases hgh : g = h
  · subst hgh; simp
  · simp [hgh, State.group_setGroup_ne]

@[simp] theorem State.stagedValue_setStaged_self (v : Option Int) : (s.setStaged i v).stagedValue i = v := by
  simp [State.stagedValue, State.setStaged]

theorem State.stagedValue_setStaged_ne (v : Option Int) (hne : i ≠ j) :
    (s.setStaged i v).stagedValue j = s.stagedValue j := by
  have : i.val ≠ j.val := fun hv => hne (Fin.ext hv)
  simp [State.stagedValue, State.setStaged, this]

/-- Clearing a group's staged values leaves none to its members and every other value unchanged. -/
@[simp] theorem State.stagedValue_clearStaged :
    (s.clearStaged g).stagedValue i = if s.isMember g i then none else s.stagedValue i := by
  simp [State.stagedValue, State.clearStaged]

/-! ## Accessors that read one table -/

@[simp] theorem State.entry_setGroup (x : Group) : (s.setGroup g x).entry j = s.entry j := rfl
@[simp] theorem State.entry_setStaged (v : Option Int) : (s.setStaged i v).entry j = s.entry j := rfl
@[simp] theorem State.entry_clearStaged : (s.clearStaged g).entry i = s.entry i := rfl
@[simp] theorem State.entry_setCause (c : Byte) : (s.setCause c).entry i = s.entry i := rfl
@[simp] theorem State.entry_issueRequest (o : Origin) (r : FpRequest) : (s.issueRequest o r).entry i = s.entry i := rfl
@[simp] theorem State.entry_releaseSelect : (s.releaseSelect).entry i = s.entry i := rfl
@[simp] theorem State.group_setEntry (e : Entry) : (s.setEntry i e).group g = s.group g := rfl
@[simp] theorem State.group_mapEntries (f : Fin 48 → Entry → Entry) : (s.mapEntries f).group g = s.group g := rfl
@[simp] theorem State.group_setStaged (v : Option Int) : (s.setStaged i v).group g = s.group g := rfl
@[simp] theorem State.group_clearStaged : (s.clearStaged g).group h = s.group h := rfl
@[simp] theorem State.group_setCause (c : Byte) : (s.setCause c).group g = s.group g := rfl
@[simp] theorem State.group_issueRequest (o : Origin) (r : FpRequest) : (s.issueRequest o r).group g = s.group g := rfl
@[simp] theorem State.group_releaseSelect : (s.releaseSelect).group g = s.group g := rfl
@[simp] theorem State.stagedValue_setEntry (e : Entry) : (s.setEntry i e).stagedValue j = s.stagedValue j := rfl
@[simp] theorem State.stagedValue_mapEntries (f : Fin 48 → Entry → Entry) : (s.mapEntries f).stagedValue i = s.stagedValue i := rfl
@[simp] theorem State.stagedValue_setGroup (x : Group) : (s.setGroup g x).stagedValue j = s.stagedValue j := rfl
@[simp] theorem State.stagedValue_setCause (c : Byte) : (s.setCause c).stagedValue i = s.stagedValue i := rfl
@[simp] theorem State.stagedValue_issueRequest (o : Origin) (r : FpRequest) : (s.issueRequest o r).stagedValue i = s.stagedValue i := rfl
@[simp] theorem State.stagedValue_releaseSelect : (s.releaseSelect).stagedValue i = s.stagedValue i := rfl

end Sys2Proof.Machine
end

