-- ==== Sys2Proof/Laws/Ops.lean ====
section
/-! SUPPORT. What each shared operation can do, said once. -/

namespace Sys2Proof.Machine

variable {s t u : State}

/-! ## Records (R125, R126, R131) -/

/-- In OFF no record is created. -/
theorem State.createRecord_off (h : s.ringState = .off) (d : Detail) (x : Subject) (a v : Word) :
    s.createRecord d x a v = s := by
  simp [State.createRecord, h]

/-- Outside OFF, with room, the record joins the tail with the sequence number and the tick counter as they stand. -/
theorem State.createRecord_joins (h : s.ringState ≠ .off) (hroom : s.records.length < Config.recordPlaces)
    (d : Detail) (x : Subject) (a v : Word) :
    s.createRecord d x a v =
      { s with
        sequence := s.sequence + 1
        records := s.records ++ [{ detail := d, sequence := s.sequence, subject := x, address := a, value := v,
                                   timestamp := s.tickCounter }] } := by
  cases hr : s.ringState <;> simp_all [State.createRecord]

/-- Outside OFF, with the queue full, the record uses up its number, is discarded and counted. -/
theorem State.createRecord_discards (h : s.ringState ≠ .off) (hfull : Config.recordPlaces ≤ s.records.length)
    (d : Detail) (x : Subject) (a v : Word) :
    s.createRecord d x a v =
      { s with
        sequence := s.sequence + 1
        lost := if s.lost < Config.countMax then s.lost + 1 else s.lost
        causes := if s.lost = 0 then s.causes ||| causeLoss else s.causes } := by
  have hn : ¬ s.records.length < Config.recordPlaces := Nat.not_lt.mpr hfull
  cases hr : s.ringState <;> simp_all [State.createRecord, State.countLost]

/-- A record's creation changes the queue, the two counters and the causes, and nothing else. -/
theorem State.createRecord_changes (s : State) (d : Detail) (x : Subject) (a v : Word) :
    ∃ r q l c, s.createRecord d x a v = { s with records := r, sequence := q, lost := l, causes := c } := by
  by_cases h : s.ringState = .off
  · exact ⟨s.records, s.sequence, s.lost, s.causes, by rw [State.createRecord_off h]⟩
  · by_cases hr : s.records.length < Config.recordPlaces
    · exact ⟨_, _, s.lost, s.causes, by rw [State.createRecord_joins h hr]⟩
    · exact ⟨s.records, _, _, _, by rw [State.createRecord_discards h (Nat.le_of_not_lt hr)]⟩

/-- The pending record queue keeps its capacity (R130). -/
theorem State.createRecord_length (s : State) (d : Detail) (x : Subject) (a v : Word)
    (h : s.records.length ≤ Config.recordPlaces) :
    (s.createRecord d x a v).records.length ≤ Config.recordPlaces := by
  by_cases ho : s.ringState = .off
  · simpa [State.createRecord_off ho] using h
  · by_cases hr : s.records.length < Config.recordPlaces
    · rw [State.createRecord_joins ho hr]; simp; omega
    · rw [State.createRecord_discards ho (Nat.le_of_not_lt hr)]; exact h

/-- The lost counter keeps its bound (R131). -/
theorem State.createRecord_lost (s : State) (d : Detail) (x : Subject) (a v : Word) (h : s.lost ≤ Config.countMax) :
    (s.createRecord d x a v).lost ≤ Config.countMax := by
  by_cases ho : s.ringState = .off
  · simpa [State.createRecord_off ho] using h
  · by_cases hr : s.records.length < Config.recordPlaces
    · rw [State.createRecord_joins ho hr]; exact h
    · rw [State.createRecord_discards ho (Nat.le_of_not_lt hr)]
      show (if s.lost < Config.countMax then s.lost + 1 else s.lost) ≤ Config.countMax
      split <;> omega

/-! ## What a judgement, an expiry or an abandonment can reach -/

/-- The state `t` differs from `s` at most in the entries, the groups, the staging, the commit-wait list, the records with
their two counters, and the causes. -/
def State.JudgedFrom (s t : State) : Prop :=
  t = { s with
    entries := t.entries, groups := t.groups, staged := t.staged, commitWait := t.commitWait
    records := t.records, sequence := t.sequence, lost := t.lost, causes := t.causes }

theorem State.JudgedFrom.refl (s : State) : s.JudgedFrom s := rfl

theorem State.JudgedFrom.trans (h : s.JudgedFrom t) (h' : t.JudgedFrom u) : s.JudgedFrom u := by
  unfold State.JudgedFrom at *
  rw [h'] ; rw [h]

theorem State.setEntry_judged (s : State) (i : Fin 48) (e : Entry) : s.JudgedFrom (s.setEntry i e) := rfl
theorem State.mapEntries_judged (s : State) (f : Fin 48 → Entry → Entry) : s.JudgedFrom (s.mapEntries f) := by
  unfold State.JudgedFrom State.mapEntries; rfl
theorem State.setGroup_judged (s : State) (g : Fin 8) (x : Group) : s.JudgedFrom (s.setGroup g x) := rfl
theorem State.setStaged_judged (s : State) (i : Fin 48) (v : Option Int) : s.JudgedFrom (s.setStaged i v) := rfl
theorem State.clearStaged_judged (s : State) (g : Fin 8) : s.JudgedFrom (s.clearStaged g) := by
  unfold State.JudgedFrom State.clearStaged; rfl
theorem State.setCause_judged (s : State) (c : Byte) : s.JudgedFrom (s.setCause c) := rfl

theorem State.createRecord_judged (s : State) (d : Detail) (x : Subject) (a v : Word) :
    s.JudgedFrom (s.createRecord d x a v) := by
  obtain ⟨r, q, l, c, h⟩ := s.createRecord_changes d x a v
  unfold State.JudgedFrom
  rw [h]

/-- A run of judged steps over a list is judged. -/
theorem State.foldl_judged {α : Type} (f : State → α → State) (hf : ∀ (s : State) (a : α), s.JudgedFrom (f s a)) :
    ∀ (l : List α) (s : State), s.JudgedFrom (l.foldl f s)
  | [], s => State.JudgedFrom.refl s
  | a :: l, s => (hf s a).trans (State.foldl_judged f hf l (f s a))

theorem State.abandon_judged (s : State) (g : Fin 8) (c : AbandonCause) : s.JudgedFrom (s.abandon g c) :=
  ((((s.createRecord_judged _ _ _ _).trans (State.clearStaged_judged _ g)).trans
    (State.setGroup_judged _ g _)).trans (State.setCause_judged _ _))

theorem State.stage_judged (s : State) (g : Fin 8) (i : Fin 48) (v : Int) : s.JudgedFrom (s.stage g i v) := by
  unfold State.stage
  dsimp only
  split
  · exact State.setStaged_judged s i _
  · split <;> rfl
  · split <;> rfl

theorem State.countAgainst_judged (s : State) (f : BitVec 6) (i : Fin 48) : s.JudgedFrom (s.countAgainst f i) :=
  State.setEntry_judged s i _

theorem State.tripIfDue_judged (s : State) (v : Word) (i : Fin 48) : s.JudgedFrom (s.tripIfDue v i) := by
  unfold State.tripIfDue
  dsimp only
  split
  · exact ((s.setEntry_judged i _).trans (State.createRecord_judged _ _ _ _ _)).trans (State.setCause_judged _ _)
  · exact State.JudgedFrom.refl s

theorem State.violate_judged (s : State) (i : Fin 48) (f : BitVec 6) (d : Detail) (a v : Word) :
    s.JudgedFrom (s.violate i f d a v) :=
  (((s.countAgainst_judged f i).trans (State.createRecord_judged _ _ _ _ _)).trans
    (State.setCause_judged _ _)).trans (State.tripIfDue_judged _ _ _)

theorem State.admitWrite_judged (s : State) (r : NpRequest) (i : Fin 48) (v : Int) (own : Bool) :
    s.JudgedFrom (s.admitWrite r i v own).1 := by
  unfold State.admitWrite
  dsimp only
  split
  · exact s.stage_judged _ i v
  · exact s.setEntry_judged i _

theorem State.judgeValue_judged (s : State) (r : NpRequest) (i : Fin 48) (v : Int) (own : Bool) :
    s.JudgedFrom (s.judgeValue r i v own).1 := by
  unfold State.judgeValue
  dsimp only
  split
  · split
    · exact (s.violate_judged i _ _ _ _).trans (State.admitWrite_judged _ r i _ own)
    · exact (s.violate_judged i _ _ _ _).trans (State.admitWrite_judged _ r i _ false)
    · exact s.violate_judged i _ _ _ _
    · exact s.violate_judged i _ _ _ _
  · exact s.admitWrite_judged r i v own

theorem State.judgeExact_judged (s : State) (r : NpRequest) (i : Fin 48) : s.JudgedFrom (s.judgeExact r i).1 := by
  unfold State.judgeExact State.denyLatched
  split
  · exact s.setEntry_judged i _
  · exact s.judgeValue_judged r i _ true

theorem State.judgePartial_judged (s : State) (r : NpRequest) (i : Fin 48) :
    s.JudgedFrom (s.judgePartial r i).1 := by
  unfold State.judgePartial State.denyLatched
  split
  · exact s.setEntry_judged i _
  · split
    · exact s.judgeValue_judged r i _ false
    · exact s.violate_judged i _ _ _ _

theorem State.judgeStraddle_judged (s : State) (r : NpRequest) (is : List (Fin 48)) :
    s.JudgedFrom (s.judgeStraddle r is).1 :=
  (((State.foldl_judged _ (fun s i => s.countAgainst_judged _ i) is s).trans
    (State.createRecord_judged _ _ _ _ _)).trans (State.setCause_judged _ _)).trans
    (State.foldl_judged _ (fun s i => s.tripIfDue_judged _ i) is _)

theorem State.judgeBypass_judged (s : State) (r : NpRequest) (x : Target) :
    s.JudgedFrom (s.judgeBypass r x).1 := by
  cases x with
  | malformed => exact State.JudgedFrom.refl s
  | exact i =>
    unfold State.judgeBypass
    dsimp only
    split
    · exact s.setStaged_judged i _
    · exact State.JudgedFrom.refl s
  | partialTo i =>
    unfold State.judgeBypass
    dsimp only
    split
    · exact s.setStaged_judged i _
    · exact State.JudgedFrom.refl s
  | straddling is => exact State.JudgedFrom.refl s
  | unwatched => exact State.JudgedFrom.refl s

theorem State.judgeGuarded_judged (s : State) (r : NpRequest) (x : Target) :
    s.JudgedFrom (s.judgeGuarded r x).1 := by
  cases x with
  | malformed => exact State.JudgedFrom.refl s
  | exact i => exact s.judgeExact_judged r i
  | partialTo i => exact s.judgePartial_judged r i
  | straddling is => exact s.judgeStraddle_judged r is
  | unwatched => exact State.JudgedFrom.refl s

theorem State.judgeWrite_judged (s : State) (r : NpRequest) (x : Target) :
    s.JudgedFrom (s.judgeWrite r x).1 := by
  unfold State.judgeWrite
  split
  · exact s.judgeBypass_judged r x
  · exact s.judgeGuarded_judged r x
  · exact s.judgeGuarded_judged r x

/-- A judgement reaches only the entries, the staging, the records and the causes. -/
theorem State.judge_judged (s : State) (r : NpRequest) (x : Target) : s.JudgedFrom (s.judge r x).1 := by
  unfold State.judge
  split
  · exact (s.createRecord_judged _ _ _ _).trans (State.setCause_judged _ _)
  · split
    · exact State.JudgedFrom.refl s
    · exact s.judgeWrite_judged r _

theorem State.expireEntry_judged (s : State) (i : Fin 48) : s.JudgedFrom (s.expireEntry i) := by
  unfold State.expireEntry
  dsimp only
  split
  · exact ((s.setEntry_judged i _).trans (State.createRecord_judged _ _ _ _ _)).trans (State.setCause_judged _ _)
  · exact State.JudgedFrom.refl s

theorem State.expireGroup_judged (s : State) (g : Fin 8) : s.JudgedFrom (s.expireGroup g) := by
  unfold State.expireGroup
  split
  · exact s.abandon_judged g _
  · exact State.JudgedFrom.refl s

/-- After its countdowns, a tick reaches only the entries, the groups, the staging, the records and the causes. -/
theorem State.tickEvent_judged (s : State) : s.tickCountdowns.JudgedFrom s.tickEvent :=
  (State.foldl_judged _ (fun s i => s.expireEntry_judged i) _ _).trans
    (State.foldl_judged _ (fun s g => s.expireGroup_judged g) _ _)

theorem State.abandonOpen_judged (s : State) : s.JudgedFrom s.abandonOpen := by
  unfold State.abandonOpen
  refine State.foldl_judged _ (fun s g => ?_) _ s
  unfold State.abandonIfOpen
  split
  · exact s.abandon_judged g _
  · exact State.JudgedFrom.refl s

theorem State.clearMarks_judged (s : State) : s.JudgedFrom s.clearMarks := by
  unfold State.clearMarks
  exact s.mapEntries_judged _

/-- The effects of a mode change reach only the entries, the groups, the staging, the records and the causes. -/
theorem State.modeEffects_judged (s : State) (old new : Mode) : s.JudgedFrom (s.modeEffects old new) := by
  cases old with
  | bypass =>
    cases new with
    | bypass => exact State.JudgedFrom.refl s
    | monitor => exact s.mapEntries_judged _
    | enforce => exact s.mapEntries_judged _
  | monitor =>
    cases new with
    | bypass => exact s.abandonOpen_judged
    | monitor => exact State.JudgedFrom.refl s
    | enforce => exact State.JudgedFrom.refl s
  | enforce =>
    cases new with
    | bypass => exact s.abandonOpen_judged.trans (State.clearMarks_judged _)
    | monitor => exact s.clearMarks_judged
    | enforce => exact State.JudgedFrom.refl s

/-! ## Taking a command (R164, R165) -/

/-- A command whose frame is delivered acts, and its response becomes the held response. -/
theorem State.takeCommand_delivered {code : Byte} {payload : List Byte} (h : s.delivers code payload = true)
    (act : State → State × Response) :
    s.takeCommand code payload act =
      { (act s).1 with held := (act s).2, frame := .idle, receiver := [], outByte := none } := by
  simp [State.takeCommand, h]

/-- A command that no frame delivers changes nothing. -/
theorem State.takeCommand_undelivered {code : Byte} {payload : List Byte} (h : s.delivers code payload = false)
    (act : State → State × Response) : s.takeCommand code payload act = s := by
  simp [State.takeCommand, h]

/-! ## The far arbiter (R94 to R97) -/

/-- A grant needs a place in the log, no drain, and a released reset input. -/
theorem State.grant_some {g : Grant} (h : s.grant = some g) :
    s.inReset = false ∧ s.issueLog.length < Config.issueLogPlaces ∧ s.drain = 0 := by
  unfold State.grant at h
  split at h
  · next ho =>
    simp only [State.grantOpen, Bool.and_eq_true, Bool.not_eq_true', decide_eq_true_eq] at ho
    exact ⟨ho.1.1, ho.1.2, ho.2⟩
  · cases h

/-- While a commit run is in progress nothing but its next write is granted. -/
theorem State.grant_run {g : Grant} (h : s.grant = some g) (hrun : s.commitBuffer ≠ []) : g = .commitWrite := by
  unfold State.grant at h
  split at h
  · split at h
    · exact (Option.some.inj h).symm
    · next hb => exact absurd hb hrun
  · cases h

end Sys2Proof.Machine
end

