-- ==== Sys2Proof/Laws/Reports.lean ====
section
/-! SUPPORT. The records of one event: what creating them in turn changes, and that it does not depend on when in the event
the entries, the staging, the groups and the causes are written. -/

namespace Sys2Proof.Machine

variable {s : State}

@[simp] theorem State.reportAll_nil (s : State) : s.reportAll [] = s := rfl

@[simp] theorem State.reportAll_cons (s : State) (x : Report) (l : List Report) :
    s.reportAll (x :: l) = (s.createRecord x.detail x.subject x.address x.value).reportAll l := rfl

theorem State.reportAll_append (s : State) (l m : List Report) :
    s.reportAll (l ++ m) = (s.reportAll l).reportAll m := List.foldl_append

/-- Records change the queue, its two counters and the causes, and nothing else. -/
theorem State.reportAll_judged (s : State) (l : List Report) : s.JudgedFrom (s.reportAll l) :=
  State.foldl_judged _ (fun s _ => s.createRecord_judged _ _ _ _) l s

/-! ## A record's creation against the other writes of its event -/

theorem State.createRecord_setEntry (s : State) (i : Fin 48) (e : Entry) (d : Detail) (x : Subject) (a v : Word) :
    (s.setEntry i e).createRecord d x a v = (s.createRecord d x a v).setEntry i e := by
  cases h : s.ringState <;> simp only [State.createRecord, State.setEntry, State.countLost, h] <;> split <;> rfl

theorem State.createRecord_setGroup (s : State) (g : Fin 8) (y : Group) (d : Detail) (x : Subject) (a v : Word) :
    (s.setGroup g y).createRecord d x a v = (s.createRecord d x a v).setGroup g y := by
  cases h : s.ringState <;> simp only [State.createRecord, State.setGroup, State.countLost, h] <;> split <;> rfl

theorem State.createRecord_setStaged (s : State) (i : Fin 48) (w : Option Int) (d : Detail) (x : Subject)
    (a v : Word) : (s.setStaged i w).createRecord d x a v = (s.createRecord d x a v).setStaged i w := by
  cases h : s.ringState <;> simp only [State.createRecord, State.setStaged, State.countLost, h] <;> split <;> rfl

/-- A cause may be set before or after a record is created: LOSS is joined to the causes either way (R145). -/
theorem State.createRecord_setCause (s : State) (c : Byte) (d : Detail) (x : Subject) (a v : Word) :
    (s.setCause c).createRecord d x a v = (s.createRecord d x a v).setCause c := by
  have hc : s.causes ||| c ||| causeLoss = s.causes ||| causeLoss ||| c := by
    rw [BitVec.or_assoc, BitVec.or_comm c, BitVec.or_assoc]
  cases h : s.ringState <;> simp only [State.createRecord, State.setCause, State.countLost, h] <;> split <;>
    first | rfl | (by_cases hl : s.lost = 0 <;> simp only [hl, hc, if_true, if_false])

theorem State.reportAll_setEntry (i : Fin 48) (e : Entry) :
    ∀ (l : List Report) (s : State), (s.setEntry i e).reportAll l = (s.reportAll l).setEntry i e
  | [], _ => rfl
  | x :: l, s => by
    rw [State.reportAll_cons, State.createRecord_setEntry, State.reportAll_setEntry i e l, State.reportAll_cons]

theorem State.reportAll_setCause (c : Byte) :
    ∀ (l : List Report) (s : State), (s.setCause c).reportAll l = (s.reportAll l).setCause c
  | [], _ => rfl
  | x :: l, s => by
    rw [State.reportAll_cons, State.createRecord_setCause, State.reportAll_setCause c l, State.reportAll_cons]

/-! ## The spec-level entries are the ones the judgement writes -/

theorem Entry.counted_eq (e : Entry) (flags : BitVec 6) :
    e.counted flags = if (e.countViolation flags).tripTest then (e.countViolation flags).latch
      else e.countViolation flags := by
  have h : (e.countViolation flags).tripTest = true ↔ (e.violated flags).trips := by
    simp only [Entry.tripTest, Bool.and_eq_true, Bool.or_eq_true, decide_eq_true_eq, and_assoc]
    exact Iff.rfl
  by_cases ht : (e.violated flags).trips
  · rw [Entry.counted, if_pos ht, if_pos (h.mpr ht)]; rfl
  · rw [Entry.counted, if_neg ht, if_neg (fun q => ht (h.mp q))]; rfl

theorem Entry.admitted_eq (e : Entry) (v : Int) : e.admitted v = e.admitValue v := by
  unfold Entry.admitted Entry.admitValue
  split
  · next h => simp [h]
  · rfl

end Sys2Proof.Machine
end

