-- ==== Sys2Proof/Tests/Slice0.lean ====
section
/-! SUPPORT. The model's own tests: ill-formed commands refused, the spec's worked figures, one small step per command,
and for every statement with hypotheses a state and operands that meet them. -/

namespace Sys2Proof.Tests

open Sys2Proof Sys2Proof.Machine

set_option synthInstance.maxSize 2000
set_option Elab.async false

/-! ## Well-formedness -/

theorem test_deadlineExpiry_of_no_entry_refused : (Instr.deadlineExpiry 48).wellFormed = false := by decide
theorem test_timeoutExpiry_of_group_zero_refused : (Instr.timeoutExpiry 0).wellFormed = false := by decide
theorem test_timeoutExpiry_of_group_nine_refused : (Instr.timeoutExpiry 9).wellFormed = false := by decide
theorem test_configGroupEnable_without_enable_refused : (Instr.configGroupEnable ⟨1, 9, 1⟩).wellFormed = false := by
  decide
theorem test_configGroupDisable_with_enable_refused : (Instr.configGroupDisable ⟨1, 9, 2⟩).wellFormed = false := by
  decide
theorem test_boundary_commands_wellFormed :
    (Instr.deadlineExpiry 47).wellFormed ∧ (Instr.timeoutExpiry 1).wellFormed ∧ (Instr.timeoutExpiry 8).wellFormed := by
  decide

/-! ## Helpers -/

/-- The next state, where there is one. -/
def got : Host.Outcome State Fault Refusal → Option State
  | .next t => some t
  | .fault _ => none
  | .refused _ => none

/-- A part of the next state. -/
def after {α : Type} (c : Instr) (s : State) (f : State → α) : Option α := (got (exec c s)).map f

/-- ENFORCE with a RUNNING ring of 8 slots at 0x1000. -/
def base : State := { State.reset with mode := .enforce, ringState := .running, ringBase := 0x1000, ringSlots := 8 }

/-- Entry 6 of the example of section 2.4, READY at 0x200 with the reference 400. -/
def limited : Entry :=
  { Entry.vacant with
    state := .ready, address := 0x200, width := .w2, action := .clamp, low := some 100, high := some 900, step := 50
    reference := some 400 }

/-- `base` with an entry at index 6. -/
def withEntry (e : Entry) : State := base.setEntry 6 e

def request (op : Op) (wcode : BitVec 2) (address data : Word) : NpRequest := { tag := 5, op, wcode, address, data }

/-- A 2-byte write of a value to 0x200. -/
def write (v : Word) : NpRequest := request .write 1 0x200 v

/-- Two members of group 3 (number), 2 bytes each at 0x600 and 0x602, indexes 20 and 21. -/
def member (address : Word) : Entry :=
  { Entry.vacant with state := .ready, address, width := .w2, group := some 2, high := some 1000 }

def grouped (x : Group) (first second : Option Int) : State :=
  ((((base.setEntry 20 (member 0x600)).setEntry 21 (member 0x602)).setGroup 2 x).setStaged 20 first).setStaged 21 second

def idleGroup : Group := { Group.initial with enabled := true, timeout := 9 }
def openGroup : Group := { idleGroup with state := .opened, remaining := some 4 }
def waitingGroup : Group := { idleGroup with state := .commitWait, mark := some 1, reportCommit := true }

/-- Group 3 waiting at the head of the commit-wait list. -/
def waiting : State := { grouped waitingGroup (some 7) (some 8) with commitWait := [2], accepted := 1 }

def slot (number : Word) (op : Op) (state : SlotState) : Slot :=
  { number, tag := 1, op, wcode := 2, address := 0x40, data := 0x55, cls := .unwatched, covered := none
    disposition := .forward, state }

def aRecord : Record :=
  { detail := .limit true false true .clamp, sequence := 3, subject := .entry 6, address := 0x200, value := 20
    timestamp := 9 }

def fpRead : FpRequest := { op := .read, width := .w4, address := 0x40, data := 0 }
def fpWrite : FpRequest := { op := .write, width := .w4, address := 0x40, data := 0x55 }

/-! ## The spec's figures -/

theorem test_crc_reference_values :
    crc [0x00, 0x00] = 0x00 ∧ crc [0x11, 0x00] = 0x42 ∧ crc [0x10, 0x01, 0x02] = 0xB9 ∧ crc [0x02, 0x00] = 0x2A := by
  decide +kernel

/-- The clamp table of section 2.4. -/
theorem test_clamp_table :
    [(some 400, 500), (some 400, 950), (some 400, 20), (none, 950), (some 20, 300), (some 70, 300)].map
        (fun p : Option Int × Int => { limited with reference := p.1 }.clamped p.2) = [450, 450, 350, 900, 70, 120] ∧
      { Entry.vacant with signed := true, step := 10, reference := some 120 }.clamped (-100) = 110 := by
  decide +kernel

/-- The classification table of section 1.6. -/
def classified : State :=
  ((base.setEntry 5 { Entry.vacant with state := .ready, address := 0x100, width := .w2 }).setEntry 9
    { Entry.vacant with state := .ready, address := 0x102, width := .w2 }).setEntry 2
      { Entry.vacant with state := .ready, address := 0x104 }

theorem test_classification_table :
    [(1, 0x102), (0, 0x101), (2, 0x100), (2, 0x104), (1, 0x104), (0, 0x104), (1, 0x106), (1, 0x101)].map
        (fun p : BitVec 2 × Word => classified.target (request .write p.1 p.2 0)) =
      [.exact 9, .partialTo 5, .straddling [5, 9], .straddling [2], .straddling [2], .exact 2, .unwatched,
        .malformed] := by
  decide +kernel

/-- The merge example of section 2.5 in ENFORCE. -/
theorem test_merge_example :
    after (.acceptance (request .write 1 0x202 2))
        (withEntry { limited with
          width := .w4, mergePartial := true, low := none, high := some 120000, step := 100000
          reference := some 74565 })
        (fun t => ((t.entry 6).reference, (t.entry 6).violations, (t.entry 6).sticky,
          t.slots.map fun x => (x.wcode, x.address, x.data))) =
      some (some 120000, 1, 0x02, [(2, 0x200, 0x0001D4C0)]) := by
  decide +kernel

/-- The straddle example of section 2.6. -/
theorem test_straddle_example :
    after (.acceptance (request .write 2 0x100 0x11223344))
        ((base.setEntry 5 { Entry.vacant with
            state := .ready, address := 0x100, width := .w2, trip := 3, violations := 2, sticky := 0x01 }).setEntry 9
          { Entry.vacant with
            state := .latched, address := 0x102, width := .w2, trip := 3, violations := 4, sticky := 0x06
            denials := 7 })
        (fun t => ([t.entry 5, t.entry 9].map (fun e => (e.state, e.violations, e.sticky, e.denials)),
          t.records.map (fun r => (r.detail, r.subject, r.address, r.value)), t.causes)) =
      some ([(.latched, 3, 0x11, 0), (.latched, 5, 0x16, 7)],
        [(.straddle 2 .deny, .entry 5, 0x100, 0x11223344), (.trip 3, .entry 5, 0x100, 0x11223344)], 0x06) := by
  decide +kernel

/-- The overlay of step 8 of the group example of section 10.2. -/
theorem test_overlay_example : applyOverlay 0x02580190 [some 0xC2, some 0x01, none, none] = 0x025801C2 := by
  decide +kernel

/-- The marks 202 and 203 of the arbitration example of section 5.3 against slots 200, 201 and 204. -/
theorem test_order_mark_example :
    [200, 201, 204].map (fun n : Word => (numberAtLeast n 202, numberAtLeast n 203)) =
      [(false, false), (false, false), (true, true)] ∧ numberAtLeast 0 0xFFFFFFFF = true := by
  decide +kernel

/-- The bytes of the frames of the example of chapter 9. -/
theorem test_frame_example :
    commandFrame 0x10 [0x02] = [0x10, 0x01, 0x02, 0xB9] ∧ examineFrame [0x10, 0x01, 0x02, 0xB8] = .notTaken .badFrame ∧
      examineFrame [0x10, 0x01, 0x02, 0xB9, 0x77] = .command 0x10 [0x02] ∧
      (Response.refusal .badFrame).bytes = [0x02, 0x00, 0x2A] ∧ (State.reset.statusBytes).length = 12 := by
  decide +kernel

/-- A VACANT entry reads 36 bytes of 0 (R183). -/
theorem test_vacant_entry_reads_zero : entryBytes Entry.vacant = List.replicate 36 0 := by decide +kernel

/-- Word 0 of a LIMIT record for entry 6, sequence 3, LOW and STEP failed under CLAMP (R181). -/
theorem test_record_word : aRecord.word 0 = 0x8103180D := by decide +kernel

/-- No command answers anything but a next state from reset. -/
theorem test_reset_tick : after .tick State.reset (fun t => t.tickCounter) = some 1 := by decide +kernel

theorem test_idle_step_counts : (got (step State.reset)).map (fun t => t.clkCount) = some 1 := by decide +kernel

/-! ## One step of each command -/

theorem test_acceptance_clamps :
    after (.acceptance (write 950)) (withEntry limited) (fun t => ((t.entry 6).reference, t.slots.map Slot.data)) =
      some (some 450, [450]) := by
  decide +kernel

theorem test_send :
    after .send { base with slots := [slot 7 .read (.answered .done 9)] } (fun t => (t.slots, t.npAnswer)) =
      some ([], some { tag := 1, status := .done, readData := 9 }) := by
  decide +kernel

theorem test_issue :
    after .issue { base with slots := [slot 7 .read .waitIssue] } (fun t => (t.slots, t.issueLog)) =
      some ([slot 7 .read .waitMemory], [{ origin := .tqSlot 7, request := fpRead }]) := by
  decide +kernel

theorem test_commitStart :
    after .commitStart waiting (fun t => (t.commitWait, t.commitBuffer.map (fun w => (w.entry, w.value)),
      t.fpRequest.map FpRequest.data, (t.entry 20).reference, t.stagedValue 21, t.records.length)) =
      some ([], [(21, 8)], some 7, some 7, none, 1) := by
  decide +kernel

theorem test_commitMemberWrite :
    after .commitMemberWrite
        { base with commitBuffer := [{ group := 2, entry := 21, address := 0x602, width := .w2, value := -1 }] }
        (fun t => (t.commitBuffer, t.fpRequest.map FpRequest.data)) = some ([], some 0xFFFF) := by
  decide +kernel

theorem test_fallbackIssue :
    after .fallbackIssue (withEntry { limited with state := .stale, period := some 3, fallback := some 250, mark := some 0 })
        (fun t => ((t.entry 6).reference, (t.entry 6).mark, (t.entry 6).state, t.fpRequest.map FpRequest.data)) =
      some (some 250, none, .stale, some 250) := by
  decide +kernel

theorem test_ownershipRead :
    after .ownershipRead { base with records := [aRecord], head := 2 }
        (fun t => (t.posting, t.fpRequest.map FpRequest.address)) = some (.reading, some 0x1020) := by
  decide +kernel

theorem test_ringRecordWrite :
    after .ringRecordWrite { base with records := [aRecord], posting := .offered 0 }
        (fun t => (t.posting, t.fpRequest)) =
      some (.writing 0, some { op := .write, width := .w4, address := 0x1000, data := 0x8103180D }) := by
  decide +kernel

theorem test_memoryAnswer_completes_posting :
    after (.memoryAnswer .ok 0)
        { base with
          records := [aRecord], posting := .writing 0, head := 7, lost := 2
          issueLog := [{ origin := .ringWrite 7 0, request := fpWrite }] }
        (fun t => (t.head, t.posting, t.causes, t.lost, t.records.map (fun r => (r.detail, r.value)))) =
      some (0, .idle, 0x01, 0, [(.loss, 2)]) := by
  decide +kernel

theorem test_memoryAnswer_unexpected :
    after (.memoryAnswer .ok 0) base (fun t => t.causes) = some 0x20 := by decide +kernel

theorem test_tick_expires_and_pends :
    after .tick { withEntry { limited with period := some 3, remaining := some 1, fallback := some 250 } with accepted := 501 }
        (fun t => ((t.entry 6).state, (t.entry 6).remaining, (t.entry 6).mark, t.causes,
          t.records.map (fun r => (r.detail, r.value)))) =
      some (.stale, none, some 501, 0x08, [(.stale true, 250)]) := by
  decide +kernel

theorem test_deadlineExpiry :
    after (.deadlineExpiry 6) (withEntry { limited with period := some 3, remaining := some 1 })
        (fun t => ((t.entry 6).state, t.tickCounter)) = some (.stale, 1) := by
  decide +kernel

theorem test_timeoutExpiry :
    after (.timeoutExpiry 3) (grouped { openGroup with remaining := some 1 } (some 450) none)
        (fun t => ((t.group 2).state, t.stagedValue 20, t.causes,
          t.records.map (fun r => (r.detail, r.subject, r.address, r.value)))) =
      some (.idle, none, 0x10, [(.abandon 1 .timeout, .group 2, 0x600, 0)]) := by
  decide +kernel

theorem test_deviceReset :
    after (.deviceReset false) { base with issueLog := [{ origin := .tqSlot 7, request := fpRead }], drain := 0 }
        (fun t => (t.drain, t.issueLog, t.inReset, t.mode)) = some (1, [], true, .bypass) := by
  decide +kernel

theorem test_resetRelease :
    after .resetRelease { State.reset with inReset := true } (fun t => decide (t = State.reset)) = some true := by
  decide +kernel

theorem test_frameStart : after .frameStart base (fun t => (t.frame, t.receiver)) = some (.opened, []) := by
  decide +kernel

theorem test_incomingByte :
    after (.incomingByte 0x11) { base with frame := .opened, receiver := [0x00, 0x00], held := Response.refusal .badFrame }
        (fun t => (t.receiver, t.outByte)) = some ([0x00, 0x00, 0x11], some 0x2A) := by
  decide +kernel

theorem test_incomingByte_of_a_frame_held_through_the_reset :
    after (.incomingByte 0x11) { base with frame := .void } (fun t => (t.receiver, t.outByte)) = some ([], some 0) := by
  decide +kernel

theorem test_frameNotTaken :
    after .frameNotTaken { base with frame := .opened, receiver := [0x99, 0x00, crc [0x99, 0x00]] }
        (fun t => (t.held, t.frame)) = some (Response.refusal .unknown, .idle) := by
  decide +kernel

theorem test_nop_of_its_own_frame :
    after .nop { base with frame := .opened, receiver := [0x00, 0x00, 0x00, 0x55] } (fun t => (t.held, t.frame)) =
      some (Response.okEmpty, .idle) := by
  decide +kernel

theorem test_setMode_leaves_bypass :
    after (.setMode 1) { withEntry { limited with period := some 3 } with mode := .bypass }
        (fun t => (t.mode, (t.entry 6).remaining)) = some (.monitor, some 3) := by
  decide +kernel

theorem test_getStatus :
    after .getStatus base (fun t => t.held) = some (Response.okWith [2, 1, 0, 0, 0, 0, 0, 0, 0, 0, 0, 0]) := by
  decide +kernel

/-- A LOAD_ENTRY of index 6 at 0x200, 2 bytes, with limits 100 to 900, step 50 and CLAMP. -/
def loading : LoadPayload :=
  { index := 6, address := 0x200, wcode := 1, flags := 0x0C, action := 1, low := 100, high := 900, step := 50, trip := 0
    group := 0, period := 0, fallback := 0 }

theorem test_loadEntry :
    after (.loadEntry loading) base (fun t => (t.entry 6, t.held)) =
      some ({ limited with reference := none }, Response.okEmpty) := by
  decide +kernel

theorem test_loadEntry_in_the_ring_region_conflicts :
    after (.loadEntry { loading with address := 0x107E }) base (fun t => (t.entry 6, t.held)) =
      some (Entry.vacant, Response.refusal .conflict) := by
  decide +kernel

theorem test_tuneEntry :
    after (.tuneEntry ⟨6, 3, 0x04, 200, 0, 7, 9⟩) (withEntry limited) (fun t => t.entry 6) =
      some { limited with action := .deny, low := some 200, high := none, step := 7, trip := 9 } := by
  decide +kernel

theorem test_setFresh :
    after (.setFresh ⟨6, 0x60, 3, 250⟩) (withEntry limited) (fun t => t.entry 6) =
      some { limited with period := some 3, fallback := some 250, remaining := some 3 } := by
  decide +kernel

theorem test_retireEntry :
    after (.retireEntry 6) (withEntry limited) (fun t => t.entry 6) = some Entry.vacant := by decide +kernel

theorem test_readEntry :
    after (.readEntry 6) (withEntry limited) (fun t => (t.held.payload.take 6, t.held.payload.length)) =
      some ([0x00, 0x02, 0x00, 0x00, 0x51, 0x23], 36) := by
  decide +kernel

theorem test_preloadReference :
    after (.preloadReference 6 20) (withEntry limited) (fun t => (t.entry 6).reference) = some (some 20) := by
  decide +kernel

theorem test_forgetReference :
    after (.forgetReference 6) (withEntry limited) (fun t => (t.entry 6).reference) = some none := by decide +kernel

theorem test_clearSticky :
    after (.clearSticky 6 0x03) (withEntry { limited with sticky := 0x07 }) (fun t => (t.entry 6).sticky) =
      some 0x04 := by
  decide +kernel

theorem test_releaseEntry :
    after (.releaseEntry 6) (withEntry { limited with state := .latched, violations := 9, period := some 3 })
        (fun t => t.entry 6) = some { limited with period := some 3, remaining := some 3 } := by
  decide +kernel

theorem test_configGroupEnable :
    after (.configGroupEnable ⟨3, 9, 2⟩) (grouped Group.initial none none) (fun t => t.group 2) =
      some idleGroup := by
  decide +kernel

theorem test_configGroupDisable :
    after (.configGroupDisable ⟨3, 9, 0⟩) (grouped openGroup (some 450) none)
        (fun t => (t.group 2, t.stagedValue 20, t.records.map (fun r => (r.detail, r.value)))) =
      some ({ Group.initial with timeout := 9 }, none, [(.abandon 1 .disable, 4)]) := by
  decide +kernel

theorem test_readGroup :
    after (.readGroup 3) (grouped openGroup (some 450) none) (fun t => t.held.payload) =
      some [0x06, 1, 9, 0, 2, 20, 21, 0xFF, 0xFF, 0xFF, 0xFF, 0xFF, 0xFF, 0x01, 4, 0, 0] := by
  decide +kernel

theorem test_configRing :
    after (.configRing 0x2000 8) { base with ringState := .stopped, head := 5 }
        (fun t => (t.ringState, t.ringBase, t.head)) = some (.running, 0x2000, 0) := by
  decide +kernel

theorem test_ringOff_busy_in_flight :
    after .ringOff { base with posting := .reading } (fun t => (t.ringState, t.held)) =
      some (.running, Response.refusal .busy) := by
  decide +kernel

theorem test_ringPoll :
    after .ringPoll { base with ringState := .suspended } (fun t => t.ringState) = some .running := by decide +kernel

theorem test_setTick_boundaries :
    [0, 1, 256, 257].map (fun n => after (.setTick n) base (fun t => t.tickLength)) =
      [some 1, some 1, some 256, some 1] := by
  decide +kernel

theorem test_readTime :
    after .readTime { base with tickCounter := 0x01020304 } (fun t => t.held.payload) = some [4, 3, 2, 1] := by
  decide +kernel

theorem test_setAlertMask : after (.setAlertMask 0x81) base (fun t => t.mask) = some 0x81 := by decide +kernel

theorem test_ackAlerts :
    after (.ackAlerts 0x03) { base with causes := 0x06 } (fun t => t.causes) = some 0x04 := by decide +kernel

/-! ## Witnesses: what each statement assumes is met by a concrete state and operands -/

theorem test_witness_IdleStepCountsTheClock :
    base.pending = [] ∧ { base with inReset := true }.inReset = true ∧ base.inReset = false ∧
      { base with clkCount := 14 }.clkCount < 15 ∧
      (15 ≤ { base with clkCount := 15, intervalLength := 2 }.clkCount ∧ base.usCount + 1 < 2) ∧
      base.intervalLength ≤ base.usCount + 1 := by
  decide +kernel

theorem test_witness_DeviceResetAndReleaseSetEveryBlock :
    { base with inReset := true }.inReset = true ∧ base.inReset = false := by decide +kernel

theorem test_witness_DeviceResetHoldsTheBlocks :
    { base with inReset := true }.inReset = true ∧ { base with inReset := true }.issueLog = [] := by decide +kernel

theorem base_hasRoom : base.hasRoom := ⟨rfl, by decide⟩

theorem test_witness_AcceptanceTakesTheYoungestSlot :
    16 ≤ { base with slots := List.replicate 16 (slot 0 .read .waitIssue) }.slots.length ∧
      { base with slots := List.replicate 15 (slot 0 .read .waitIssue) }.hasRoom :=
  ⟨by decide, rfl, by decide⟩

theorem test_witness_AcceptanceTouchesOnlyCoveredEntries :
    (withEntry limited).hasRoom ∧ ¬ (withEntry limited).covers (write 1) 0 ∧ (withEntry limited).covers (write 1) 6 ∧
      ¬ (withEntry limited).covers (request .read 1 0x202 0) 6 ∧
      (withEntry limited).target (request .read 1 0x202 0) ≠ .malformed :=
  ⟨⟨by decide, by decide⟩, by decide +kernel⟩

theorem test_witness_MalformedRequestAnsweredFault :
    base.hasRoom ∧ (request .write 3 0x200 1).wcode = 3 ∧ (request .read 2 0x202 0).address.toNat % 2 ^ 2 ≠ 0 :=
  ⟨base_hasRoom, by decide +kernel⟩

theorem test_witness_RequestsClassifiedByCoveredEntries :
    classified.target (request .write 1 0x106 0) ≠ .malformed ∧ classified.target (request .write 3 0x100 0) = .malformed :=
  by decide +kernel

theorem test_witness_UncheckedWritesForwardedOrStaged :
    base.hasRoom ∧ base.target (write 1) = .unwatched ∧
      { withEntry limited with mode := .bypass }.target (write 1) = .exact 6 ∧
      ¬ State.waitsToCommit { withEntry limited with mode := .bypass } 6 ∧
      { withEntry limited with mode := .bypass }.target (request .write 2 0x200 1) = .straddling [6] ∧
      ({ waiting with mode := .bypass }.inReset = false ∧ { waiting with mode := .bypass }.slots.length < 16) ∧
      State.waitsToCommit { waiting with mode := .bypass } 20 ∧
      waiting.target (request .write 1 0x600 1) = .exact 20 ∧ waiting.target (request .write 0 0x601 1) = .partialTo 20 ∧
      waiting.stagedValue 20 = some 7 :=
  ⟨base_hasRoom, by decide +kernel⟩

theorem test_witness_ChecksCompareExactValues :
    inType .w2 true (-32768) = true ∧ inType .w2 true 32768 = false ∧ inType .w2 false 65535 = true ∧
      [99, 100, 900, 901].map (fun v => ((limited.checks v).low, (limited.checks v).high)) =
        [(true, false), (false, false), (false, false), (false, true)] ∧
      [349, 350, 450, 451].map (fun v => (limited.checks v).step) = [true, false, false, true] ∧
      [0x7FFFFFFF, 0x80000000].map (fieldValue true) = [2147483647, -2147483648] ∧
      fieldValue false 0x80000000 = 2147483648 := by
  decide +kernel

theorem test_witness_LatchedWriteDenied :
    (withEntry { limited with state := .latched }).hasRoom ∧
      ((withEntry { limited with state := .latched }).entry 6).state = .latched ∧
      (withEntry { limited with state := .latched }).target (write 1) = .exact 6 ∧
      (withEntry { limited with state := .latched }).target (request .write 0 0x201 1) = .partialTo 6 ∧
      (withEntry { limited with state := .latched }).mode = .enforce ∧
      { withEntry { limited with state := .latched } with mode := .monitor }.target (write 1) = .exact 6 ∧
      (withEntry limited).enabledGroup { limited with state := .latched } = none :=
  ⟨⟨by decide, by decide⟩, by decide +kernel⟩

/-- An exact write of `v` is judged whole in `withEntry e`. -/
theorem judgedWhole_exact {s : State} {e : Entry} {v : Word} {x : Int} (he : s.entry 6 = e)
    (h : s.inReset = false ∧ s.slots.length < 16 ∧ s.mode ≠ .bypass ∧ ¬ (s.mode = .enforce ∧ e.state = .latched) ∧
      s.target (write v) = .exact 6 ∧ x = readValue e.width e.signed v) : s.judgedWhole (write v) 6 x true := by
  subst he
  exact ⟨⟨h.1, h.2.1⟩, rfl, h.2.2.1, h.2.2.2.1, Or.inl ⟨h.2.2.2.2.1, rfl, h.2.2.2.2.2⟩⟩

/-- A merged write of one byte to 0x200 is judged whole in ENFORCE. -/
theorem judgedWhole_merged : (withEntry { limited with mergePartial := true }).judgedWhole (request .write 0 0x200 0xA0) 6
    416 false := by
  have merges : (withEntry { limited with mergePartial := true }).partialBase 6 = some 400 ∧
      416 = mergedValue ((withEntry { limited with mergePartial := true }).entry 6) (request .write 0 0x200 0xA0) 400 := by
    decide +kernel
  refine ⟨?room, rfl, ?mode, ?state, .inr ⟨?target, rfl, ?merge, 400, merges⟩⟩
  case room => exact ⟨by decide, by decide⟩
  all_goals decide +kernel

theorem test_witness_ConformingWriteAdmitted :
    (withEntry limited).judgedWhole (write 450) 6 450 true ∧
      (withEntry { limited with mergePartial := true }).judgedWhole (request .write 0 0x200 0xA0) 6 416 false ∧
      (withEntry limited).enabledGroup ((withEntry limited).entry 6) = none ∧ (limited.checks 450).any = false ∧
      (limited.checks 416).any = false :=
  ⟨judgedWhole_exact (e := limited) (by decide +kernel) (by decide +kernel), judgedWhole_merged, by decide +kernel⟩

theorem test_witness_ViolatingWriteAdmitted :
    (withEntry limited).judgedWhole (write 950) 6 950 true ∧
      { withEntry { limited with state := .latched } with mode := .monitor }.judgedWhole (write 950) 6 950 true ∧
      (limited.checks 950).any = true ∧ (withEntry limited).enabledGroup ((withEntry limited).entry 6) = none ∧
      (withEntry limited).admits 6 950 true 450 false ∧
      (withEntry { limited with action := .pass }).admits 6 950 true 950 true ∧
      { withEntry limited with mode := .monitor }.admits 6 950 true 950 true := by
  refine ⟨judgedWhole_exact (e := limited) ?entry ?premises,
    judgedWhole_exact (e := { limited with state := .latched }) ?entry' ?premises', ?fails, ?ungrouped, .inr ?clamped,
    .inl ?passed, .inl ?monitored⟩
  all_goals decide +kernel

theorem test_witness_ViolatingWriteDroppedInEnforce :
    ∀ a ∈ [Action.hold, .deny],
      (withEntry { limited with action := a }).judgedWhole (write 950) 6 950 true ∧
        ((withEntry { limited with action := a }).entry 6).action = a ∧
        (((withEntry { limited with action := a }).entry 6).checks 950).any = true := by
  intro a ha
  simp only [List.mem_cons, List.not_mem_nil, or_false] at ha
  rcases ha with rfl | rfl <;>
    exact ⟨judgedWhole_exact rfl (by decide +kernel), by decide +kernel⟩

theorem test_witness_PartialViolationCountedAndNotAdmitted :
    (withEntry limited).hasRoom ∧ (withEntry limited).target (request .write 0 0x201 1) = .partialTo 6 ∧
      ((withEntry limited).entry 6).state ≠ .latched ∧ ((withEntry limited).entry 6).mergePartial = false ∧
      (withEntry { limited with mergePartial := true, reference := none }).partialBase 6 = none :=
  ⟨⟨by decide, by decide⟩, by decide +kernel⟩

theorem test_witness_MergedPartialWriteAdmitted :
    (withEntry { limited with mergePartial := true }).hasRoom ∧
      (withEntry { limited with mergePartial := true }).target (request .write 0 0x200 0xA0) = .partialTo 6 ∧
      ((withEntry { limited with mergePartial := true }).entry 6).state ≠ .latched ∧
      (withEntry { limited with mergePartial := true }).partialBase 6 = some 400 ∧
      mergedValue limited (request .write 0 0x200 0xA0) 400 = 416 ∧
      mergedValue limited (request .write 0 0x201 0xA0) 400 = 41104 ∧ (limited.checks 416).any = false ∧
      (grouped openGroup (some 450) none).partialBase 20 = some 450 :=
  ⟨⟨by decide, by decide⟩, by decide +kernel⟩

theorem test_witness_StraddlingWriteCountsEveryCoveredEntry :
    classified.hasRoom ∧ classified.mode ≠ .bypass ∧
      classified.target (request .write 2 0x100 0) = .straddling [5, 9] :=
  ⟨⟨by decide, by decide⟩, by decide +kernel⟩

/-- An exact write to entry 20 of an idle group is judged whole. -/
theorem judgedWhole_member {v : Word} {x : Int} (hx : x = readValue .w2 false v)
    (ht : (grouped idleGroup none none).target (request .write 1 0x600 v) = .exact 20) :
    (grouped idleGroup none none).judgedWhole (request .write 1 0x600 v) 20 x true := by
  refine ⟨?room, rfl, ?mode, ?state, Or.inl ⟨ht, rfl, ?value⟩⟩
  case room => exact ⟨by decide, by decide⟩
  case value => rw [hx]; rfl
  all_goals decide +kernel

theorem test_witness_MemberWriteStaged :
    (grouped idleGroup none none).judgedWhole (request .write 1 0x600 9) 20 9 true ∧
      (grouped idleGroup none none).judgedWhole (request .write 1 0x600 1001) 20 1001 true ∧
      (grouped idleGroup none none).enabledGroup ((grouped idleGroup none none).entry 20) = some 2 ∧
      ((member 0x600).checks 9).any = false ∧ ((member 0x600).checks 1001).any = true ∧
      (grouped idleGroup none none).admits 20 1001 true 1001 true ∧
      ¬ (∀ j ∈ (grouped idleGroup none none).members 2, j ≠ 20 →
        ((grouped idleGroup none none).stagedValue j).isSome = true) ∧
      (∀ j ∈ (grouped openGroup none (some 8)).members 2, j ≠ 20 →
        ((grouped openGroup none (some 8)).stagedValue j).isSome = true) ∧
      (waiting.group 2).state = .commitWait :=
  ⟨judgedWhole_member rfl (by decide +kernel), judgedWhole_member rfl (by decide +kernel), by decide +kernel,
    by decide +kernel, by decide +kernel, Or.inl (by decide +kernel), by decide +kernel⟩

/-- A violating write that trips a member is still staged, with its LIMIT and TRIP records (R52, R47). -/
theorem test_tripping_member_write_staged :
    after (.acceptance (request .write 1 0x600 1001))
        ((grouped idleGroup none none).setEntry 20 { member 0x600 with trip := 1 })
        (fun t => (t.stagedValue 20, (t.entry 20).state, (t.group 2).state, t.causes,
          t.records.map (fun r => (r.detail, r.value)))) =
      some (some 1001, .latched, .opened, 0x06, [(.limit false true false .pass, 1001), (.trip 1, 1001)]) := by
  decide +kernel

theorem test_witness_ReadDisposedByStagedBytes :
    (grouped openGroup (some 450) none).hasRoom ∧ (grouped openGroup (some 450) none).target (request .read 2 0x600 0) = .straddling [20, 21] ∧
      (List.range 4).map (fun j => (grouped openGroup (some 450) none).stagedByte (0x600 + j)) =
        [some 0xC2, some 0x01, none, none] ∧
      (List.range 2).map (fun j => (grouped openGroup (some 450) none).stagedByte (0x600 + j)) =
        [some 0xC2, some 0x01] ∧
      (List.range 2).map (fun j => (grouped openGroup (some 450) none).stagedByte (0x602 + j)) = [none, none] ∧
      (grouped openGroup (some 450) none).isMember 2 20 = true ∧ (1 : Nat) < (member 0x600).width.bytes :=
  ⟨⟨by decide, by decide⟩, by decide +kernel⟩

theorem test_witness_ClampedValueIsTheNearestOfTheTarget :
    (∀ x : Int, (350 ≤ x ∧ x ≤ 450) ↔ (limited.width.typeMin limited.signed ≤ x ∧
      x ≤ limited.width.typeMax limited.signed ∧
      ∀ ref, limited.step ≠ 0 → limited.reference = some ref → ref - limited.step ≤ x ∧ x ≤ ref + limited.step)) ∧
      (∃ x : Int, 100 ≤ x ∧ x ≤ 900 ∧ 350 ≤ x ∧ x ≤ 450) ∧ limited.low.getD 0 = 100 ∧ limited.high.getD 0 = 900 ∧
      (limited.checks 950).any = true := by
  refine ⟨fun x => ⟨fun h => ⟨?_, ?_, ?_⟩, fun h => ?_⟩, ⟨400, by decide⟩, by decide, by decide, by decide⟩
  · show (0 : Int) ≤ x; omega
  · show x ≤ (65535 : Int); omega
  · intro ref _ hr
    have : (400 : Int) = ref := Option.some.inj hr
    show ref - (50 : Int) ≤ x ∧ x ≤ ref + (50 : Int)
    omega
  · have : (400 : Int) - 50 ≤ x ∧ x ≤ (400 : Int) + 50 := h.2.2 400 (by decide) rfl
    omega

theorem test_witness_ClampWalksTowardTheLimits :
    limited.step ≠ 0 ∧ inType .w2 false 20 = true ∧ (20 : Int) + limited.step < 100 ∧ (900 : Int) < 960 - limited.step ∧
      inType .w2 false 960 = true ∧ inType .w2 false 100 = true ∧ inType .w2 false 900 = true ∧ (100 : Int) ≤ 900 := by
  decide +kernel

theorem test_witness_OldestAnswerSentInOrder :
    { base with slots := [slot 7 .read (.answered .done 9)] }.slots = slot 7 .read (.answered .done 9) :: [] ∧
      (slot 7 .read (.answered .done 9)).state = .answered .done 9 ∧ (slot 7 .read .waitIssue).state = .waitIssue ∧
      base.slots = [] := by
  decide +kernel

/-- A slot that waits for memory in front of one to be issued. -/
def twoSlots : State :=
  { base with
    slots := [slot 1 .read .waitMemory, slot 2 .write .waitIssue], accepted := 3
    issueLog := [{ origin := .tqSlot 1, request := fpRead }] }

theorem test_witness_SlotsAndFallbacksIssued :
    twoSlots.grant = some .controller ∧
      twoSlots.slots = [slot 1 .read .waitMemory] ++ slot 2 .write .waitIssue :: [] ∧
      (∀ y ∈ [slot 1 .read .waitMemory], y.state ≠ .waitIssue) := by
  decide +kernel

def runInProgress : State :=
  { base with commitBuffer := [{ group := 2, entry := 21, address := 0x602, width := .w2, value := 8 }] }

def pendingFallback : State :=
  withEntry { limited with state := .stale, period := some 3, fallback := some 250, mark := some 0 }

def postingIdle : State := { base with records := [aRecord] }

theorem test_witness_FarArbiterGrantsByOrderMark :
    24 ≤ { base with issueLog := List.replicate 24 { origin := .ringRead 0, request := fpRead } }.issueLog.length ∧
      { base with drain := 1 }.drain ≠ 0 ∧ { base with inReset := true }.inReset = true ∧
      runInProgress.grant = some .commitWrite ∧ pendingFallback.grant = some (.fallback 6) ∧
      waiting.grant = some (.commitStart 2) ∧ twoSlots.grant = some .controller ∧ postingIdle.grant = some .posting ∧
      base.grant = none := by
  decide +kernel

/-! ### A state in which every law says something -/

/-- A test that an optional part passes holds of the value that the part carries. -/
theorem passes_of_all {α : Type} {part : Option α} {test : α → Bool} (checked : part.all test = true) {v : α}
    (carried : part = some v) : test v = true := by
  subst carried
  exact checked

/-- An optional part that passes a test carries a value that passes it. -/
theorem carried_of_any {α : Type} {test : α → Bool} :
    ∀ {part : Option α}, part.any test = true → ∃ v, part = some v ∧ test v = true
  | some v, passed => ⟨v, rfl, passed⟩

/-- A guarded entry at index 6 and a stale one at 7 with its fallback pending, group 3 OPEN, group 4 waiting, two slots, and
a posting whose ownership read is out. -/
def busy : State :=
  { ((((((grouped openGroup (some 450) none).setEntry 6 { limited with
        period := some 5, remaining := some 1, fallback := some 250 }).setEntry 7 { limited with
          state := .stale, address := 0x210, period := some 5, fallback := some 250, mark := some 2 }).setEntry 30
            { member 0x700 with group := some 3 }).setEntry 31 { member 0x702 with group := some 3 }).setGroup 3
              waitingGroup) with
    staged := (((Vector.replicate 48 none).set 20 (some 450)).set 30 (some 1)).set 31 (some 2)
    commitWait := [3]
    slots := twoSlots.slots
    accepted := 3
    issueLog := [{ origin := .ringRead 5, request := fpRead }, { origin := .tqSlot 1, request := fpRead }]
    records := [aRecord]
    head := 5
    posting := .reading }

theorem busy_bounded : busy.Bounded := by constructor <;> decide +kernel
theorem busy_placed : busy.Placed := by constructor <;> decide +kernel
theorem busy_posting : busy.PostingLawful := by constructor <;> decide +kernel
theorem busy_transit : busy.TransitLawful := by constructor <;> decide +kernel
theorem busy_deadlines : busy.DeadlinesLawful := by
  have running : ∀ i, (busy.entry i).remaining.all (fun n =>
      decide ((busy.entry i).state = .ready ∧ 1 ≤ n) && (busy.entry i).period.any fun p => decide (n ≤ p)) = true := by
    decide +kernel
  have periods : ∀ i, (busy.entry i).period.all (fun p =>
      decide (1 ≤ p ∧ p ≤ 65535 ∧ (busy.entry i).group = none)) = true := by decide +kernel
  have marks : ∀ i, (busy.entry i).mark.isSome = true → busy.mode = .enforce ∧
      ((busy.entry i).state = .stale ∨ (busy.entry i).state = .latched) ∧
      (busy.entry i).fallback.isSome = true := by decide +kernel
  have fallbacks : ∀ i, (busy.entry i).fallback.isSome = true → (busy.entry i).period.isSome = true := by
    decide +kernel
  intro i
  constructor
  case count =>
    intro n hn
    have both := Bool.and_eq_true_iff.mp (passes_of_all (running i) hn)
    obtain ⟨p, hp, within⟩ := carried_of_any both.2
    have ready := of_decide_eq_true both.1
    exact ⟨ready.1, ready.2, p, hp, of_decide_eq_true within⟩
  case mark => exact marks i
  case period => exact fun p hp => of_decide_eq_true (passes_of_all (periods i) hp)
  case fallback => exact fallbacks i

theorem busy_groups : busy.GroupsLawful := by
  have countdowns : ∀ g, (busy.group g).remaining.all (fun n => decide (1 ≤ n ∧ n ≤ 65535)) = true := by
    decide +kernel
  constructor
  case running => exact fun g n hn => of_decide_eq_true (passes_of_all (countdowns g) hn)
  all_goals decide +kernel

theorem busy_values : busy.ValuesLawful := by
  have typed : ∀ i, ∀ part ∈ [(busy.entry i).low, (busy.entry i).high, (busy.entry i).fallback,
      (busy.entry i).reference, busy.stagedValue i],
      part.all (inType (busy.entry i).width (busy.entry i).signed) = true := by decide +kernel
  have ordered : ∀ i, (busy.entry i).low.all (fun l => (busy.entry i).high.all fun h => decide (l ≤ h)) = true := by
    decide +kernel
  have within : ∀ i, (busy.entry i).fallback.all (fun v =>
      (busy.entry i).low.all (fun l => decide (l ≤ v)) && (busy.entry i).high.all fun h => decide (v ≤ h)) = true := by
    decide +kernel
  have bounded : ∀ i, (busy.entry i).step ≤ (busy.entry i).width.span ∧ (busy.entry i).trip ≤ 255 := by
    decide +kernel
  have inside : ∀ (i : Fin 48) {part : Option Int} {v : Int}, part ∈ [(busy.entry i).low, (busy.entry i).high,
      (busy.entry i).fallback, (busy.entry i).reference, busy.stagedValue i] → part = some v →
      inType (busy.entry i).width (busy.entry i).signed v = true :=
    fun i part _ listed hv => passes_of_all (typed i part listed) hv
  refine ⟨fun i => ?_, fun i _ hv => inside i (by simp) hv⟩
  constructor
  case low => exact fun _ hl => inside i (by simp) hl
  case high => exact fun _ hh => inside i (by simp) hh
  case ordered => exact fun _ _ hl hh => of_decide_eq_true (passes_of_all (passes_of_all (ordered i) hl) hh)
  case fallback =>
    intro v hv
    have ends := Bool.and_eq_true_iff.mp (passes_of_all (within i) hv)
    exact ⟨inside i (by simp) hv, fun _ hl => of_decide_eq_true (passes_of_all ends.1 hl),
      fun _ hh => of_decide_eq_true (passes_of_all ends.2 hh)⟩
  case reference => exact fun _ hr => inside i (by simp) hr
  case step => exact (bounded i).1
  case trip => exact (bounded i).2

theorem test_witness_laws_that_every_step_keeps :
    busy.Bounded ∧ busy.Placed ∧ busy.PostingLawful ∧ busy.TransitLawful ∧ busy.DeadlinesLawful ∧ busy.GroupsLawful ∧
      busy.ValuesLawful ∧ ∃ t, step busy = .next t :=
  ⟨busy_bounded, busy_placed, busy_posting, busy_transit, busy_deadlines, busy_groups, busy_values, _, rfl⟩

theorem postingIdle_groups : postingIdle.GroupsLawful := by
  have countdowns : ∀ g, (postingIdle.group g).remaining = none := by decide +kernel
  constructor
  case running => exact fun g _ hn => nomatch (countdowns g).symm.trans hn
  all_goals decide +kernel

theorem test_witness_PostingGrantedLast : postingIdle.GroupsLawful ∧ postingIdle.grant = some .posting :=
  ⟨postingIdle_groups, by decide +kernel⟩

theorem test_witness_OrderMarksPlaceCandidatesByAcceptance :
    busy.TransitLawful ∧ (2 : Nat) ≤ busy.accepted ∧
      busy.slots = [slot 1 .read .waitMemory] ++ slot 2 .write .waitIssue :: [] ∧
      (∀ y ∈ [slot 1 .read .waitMemory], y.state ≠ .waitIssue) ∧ (∀ y ∈ base.slots, y.state ≠ .waitIssue) ∧
      busy.placedBefore 2 = true ∧ busy.placedBefore 3 = false :=
  ⟨busy_transit, by decide +kernel⟩

theorem test_witness_CommitStartEmptiesTheStaging :
    waiting.grant = some (.commitStart 2) ∧ waiting.members 2 = 20 :: [21] ∧ waiting.stagedValue 20 = some 7 ∧
      (∀ j ∈ [(21 : Fin 48)], (waiting.stagedValue j).isSome = true) ∧ (waiting.group 2).reportCommit = true := by
  decide +kernel

theorem test_witness_CommitRunIsUnbroken :
    runInProgress.commitBuffer = { group := 2, entry := 21, address := 0x602, width := .w2, value := 8 } :: [] ∧
      runInProgress.grant = some .commitWrite ∧ Instr.send ≠ .commitMemberWrite ∧
      exec .send runInProgress = .next runInProgress :=
  ⟨by decide +kernel, by decide +kernel, by decide, rfl⟩

theorem test_witness_SlotsAndFallbacksIssued_fallback :
    pendingFallback.grant = some (.fallback 6) ∧ (pendingFallback.entry 6).fallback = some 250 := by decide +kernel

theorem test_witness_PostingStepsIssued :
    postingIdle.grant = some .posting ∧ postingIdle.posting = .idle ∧
      { postingIdle with posting := .offered 1 }.grant = some .posting ∧ postingIdle.records = aRecord :: [] := by
  decide +kernel

theorem test_witness_ControllerRequestAnswered :
    twoSlots.issueLog = { origin := .tqSlot 1, request := fpRead } :: [] ∧
      twoSlots.slots = [] ++ slot 1 .read .waitMemory :: [slot 2 .write .waitIssue] ∧
      (∀ y ∈ [slot 2 .write .waitIssue], y.number ≠ 1) ∧ fpRead.op = .read ∧ fpWrite.op = .write ∧
      twoSlots.ringState ≠ .suspended := by
  decide +kernel

def handBack (r : FpRequest) : State :=
  { base with
    ringState := .suspended, records := [aRecord], slots := [slot 1 .write .waitMemory]
    issueLog := [{ origin := .tqSlot 1, request := r }] }

theorem test_witness_HandBackOfTheHeadSlotResumesTheRing :
    (handBack fpWrite).slots = [] ++ slot 1 .write .waitMemory :: [] ∧ (handBack fpWrite).ringState = .suspended ∧
    [(Width.w4, (0x1000 : Word), (0 : Word)), (.w1, 0x1003, 0x7F), (.w4, 0x1000, 0x80000000), (.w1, 0x1004, 0),
        (.w1, 0x1002, 0)].map
        (fun p => after (.memoryAnswer .ok 0) (handBack { op := .write, width := p.1, address := p.2.1, data := p.2.2 })
          (fun t => t.ringState)) =
      [some .running, some .running, some .suspended, some .suspended, some .suspended] := by
  decide +kernel

theorem test_witness_OwnAndUnmatchedAnswersTaken :
    base.issueLog = [] ∧
      { base with issueLog := [{ origin := .commitMember 2 20, request := fpWrite }] }.issueLog =
        { origin := .commitMember 2 20, request := fpWrite } :: [] ∧
      { base with issueLog := [{ origin := .fallback 6, request := fpWrite }] }.issueLog =
        { origin := .fallback 6, request := fpWrite } :: [] := by
  decide +kernel

def posted (o : Origin) (p : Posting) : State :=
  { base with records := [aRecord], posting := p, issueLog := [{ origin := o, request := fpRead }], lost := 2 }

theorem test_witness_PostingAnswersDriveTheRing :
    (posted (.ringRead 0) .reading).issueLog = { origin := .ringRead 0, request := fpRead } :: [] ∧
      (0x7FFFFFFF : Word).getLsbD 31 = false ∧ (0x80000000 : Word).getLsbD 31 = true ∧
      (∀ w : Fin 4, (posted (.ringWrite 0 w) (.writing w)).issueLog =
        { origin := .ringWrite 0 w, request := fpRead } :: []) ∧
      (posted (.ringWrite 0 0) (.writing 0)).lost ≠ 0 ∧ (posted (.ringWrite 0 0) (.writing 0)).records.length = 1 ∧
      2 ≤ [aRecord, aRecord].length ∧ base.lost = 0 := by
  decide +kernel

theorem test_witness_TickCountsAndExpires :
    busy.inReset = false ∧ busy.DeadlinesLawful ∧ busy.GroupsLawful ∧ (busy.entry 6).remaining = some 1 ∧
      busy.staleReports.length = 1 ∧ (busy.group 2).remaining = some (2 + 2) ∧ (busy.entry 7).state ≠ .ready ∧ (busy.group 3).state ≠ .opened ∧
      busy.isMember 2 20 = true :=
  ⟨by decide +kernel, busy_deadlines, busy_groups, by decide +kernel⟩

theorem test_witness_ExpiriesTakenAtZero :
    (withEntry { limited with remaining := some 0 }).inReset = false ∧
      ((withEntry { limited with remaining := some 0 }).entry 6).remaining = some 0 ∧ limited.state = .ready ∧
      (busy.entry 6).remaining = some 1 ∧ (busy.entry 6).fallback.isSome = true ∧ busy.mode = .enforce ∧
      ((grouped { openGroup with remaining := some 0 } none none).group 2).remaining = some 0 ∧
      ((grouped { openGroup with remaining := some 1 } none none).group 2).remaining = some 1 ∧
      (busy.group 2).state = .opened := by
  decide +kernel

theorem test_witness_RegistersChangeOnlyByTheirCommands :
    exec .send base = .next base ∧ ∀ p, Instr.send ≠ .deviceReset p :=
  ⟨rfl, fun _ h => by cases h⟩

theorem test_witness_RecordCreatedOrCountedLost :
    State.reset.ringState = .off ∧ base.ringState ≠ .off ∧ base.records.length < 8 ∧
      8 ≤ { base with records := List.replicate 8 aRecord }.records.length := by
  decide +kernel

theorem test_witness_FrameBytesPassBothWays :
    base.frame = .idle ∧ { base with frame := .opened }.frame = .opened ∧
      ({ base with frame := .void, inReset := true }.frame = .void ∧
        { base with frame := .void, inReset := true }.inReset = true) ∧ { base with frame := .void }.inReset = false := by
  decide +kernel

theorem test_witness_FrameNotTakenAnswersItsFirstFault :
    [[], [0x00], [0x00, 29], [0x00, 0x00], [0x00, 0x00, 0x01], [0x99, 0x00, crc [0x99, 0x00]],
        [0x10, 0x00, crc [0x10, 0x00]], [0x00, 0x00, 0x00]].map
        (fun bytes => after .frameNotTaken { base with frame := .opened, receiver := bytes }
          (fun t => (t.frame, t.held.status))) =
      [some (.idle, .badFrame), some (.idle, .badFrame), some (.idle, .badFrame), some (.idle, .badFrame),
        some (.idle, .badFrame), some (.idle, .unknown), some (.idle, .badArg), some (.opened, .ok)] := by
  decide +kernel

theorem test_witness_CommandFrameDeliversItsCommand :
    managementCommand (.setMode 2) = some (0x10, [0x02]) ∧ enableBitFits (.setMode 2) ∧
      enableBitFits (.configGroupEnable ⟨3, 9, 2⟩) ∧ enableBitFits (.configGroupDisable ⟨3, 9, 0⟩) ∧
      base.inReset = false ∧ base.frame = .idle :=
  ⟨rfl, ⟨nofun, nofun⟩, ⟨fun _ h => by cases h; rfl, nofun⟩, ⟨nofun, fun _ h => by cases h; rfl⟩, rfl, rfl⟩

theorem test_witness_NopFrameOnlyCollects : base.inReset = false ∧ base.delivers 0x00 [] = true ∧ (0x01 : Byte) ≠ 0x00 := by
  decide +kernel

theorem test_witness_commands_delivered_without_and_with_a_frame :
    (∀ c ∈ [Instr.getStatus, .readTime, .readEntry 47, .readGroup 8, .setMode 2, .loadEntry loading, .ringOff, .ringPoll,
        .retireEntry 6, .preloadReference 6 9, .forgetReference 6, .clearSticky 6 0x3F, .releaseEntry 6,
        .configGroupEnable ⟨3, 9, 2⟩, .configGroupDisable ⟨3, 9, 0⟩, .configRing 0x2000 8, .setTick 1,
        .setAlertMask 1, .ackAlerts 1, .tuneEntry ⟨6, 3, 0x04, 200, 0, 7, 9⟩, .setFresh ⟨6, 0x60, 3, 250⟩],
      (match managementCommand c with
       | some p => base.delivers p.1 p.2 &&
           { base with frame := .opened, receiver := commandFrame p.1 p.2 ++ [0x55] }.delivers p.1 p.2
       | none => false) = true) := by
  decide +kernel

theorem test_witness_ReadCommandsAnswerTheStateAsItStands :
    { base with commitWait := [0, 1, 2, 3, 4, 5, 6, 7] }.commitWait[7]? = some 7 ∧
      after (.readGroup 8) { base with commitWait := [0, 1, 2, 3, 4, 5, 6, 7] } (fun t => t.held.payload.getLast?) =
        some (some 8) ∧
      (grouped idleGroup none none).members 2 = [20, 21] := by
  decide +kernel

theorem test_witness_SetModeTakesItsEffects :
    2 < (3 : Byte).toNat ∧ (2 : Byte).toNat = base.mode.code ∧ (0 : Byte).toNat = Mode.bypass.code ∧
      ((grouped openGroup none none).group 2).state = .opened ∧ (grouped openGroup none none).mode ≠ .bypass ∧
      (grouped openGroup none none).bypassReports.length = 1 ∧
      (grouped openGroup none none).isMember 2 20 = true := by
  decide +kernel

theorem test_witness_LoadEntryPlacesAReadyEntry :
    loading.index.toNat = 6 ∧ loading.action.toNat = Action.clamp.code ∧ loading.wcode.toNat ≤ 2 ∧
      loading.address.toNat % 2 ^ loading.wcode.toNat = 0 ∧ loading.step.toNat ≤ Width.w2.span ∧
      (base.entry 6).state = .vacant ∧ ¬ base.overlapsEntry 0x200 2 ∧ ¬ base.overlapsRing 0x200 2 ∧
      (withEntry limited).overlapsEntry 0x201 1 ∧ ¬ (withEntry limited).overlapsEntry 0x202 2 ∧
      base.overlapsRing 0x107E 2 ∧ ¬ base.overlapsRing 0x1080 2 ∧ ¬ State.reset.overlapsRing 0 4 ∧
      (∀ g : Fin 8, none = some g ↔ loading.flags.getLsbD 4 = true ∧ loading.group.toNat = g.val + 1) ∧
      (∀ g : Fin 8, some 7 = some g ↔ (0x10 : Byte).getLsbD 4 = true ∧ (8 : Byte).toNat = g.val + 1) ∧ loading.flags.getLsbD 4 = false ∧ loading.flags.getLsbD 5 = false ∧
      loading.flags.getLsbD 6 = false := by
  decide +kernel

/-- Each argument that R18 refuses with BADARG, one payload for each. -/
theorem test_loadEntry_bad_arguments :
    ([{ loading with index := 48 }, { loading with wcode := 3 }, { loading with address := 0x201 },
        { loading with action := 4 }, { loading with high := 65536 }, { loading with step := 65536 },
        { loading with low := 901 }, { loading with flags := 0x1C }, { loading with flags := 0x1C, group := 9 },
        { loading with flags := 0x2C }, { loading with flags := 0x3C, group := 1, period := 1 },
        { loading with flags := 0x4C, fallback := 100 }, { loading with flags := 0x6C, period := 1, fallback := 99 },
        { loading with flags := 0x6C, period := 1, fallback := 901 }].map fun p =>
          after (.loadEntry p) base (fun t => t.held.status)) = List.replicate 14 (some .badArg) ∧
      after (.loadEntry { loading with flags := 0x6C, period := 1, fallback := 900 }) base (fun t => t.held.status) =
        some .ok := by
  decide +kernel

theorem test_witness_TuneAndFreshReplaceTheirFields :
    (6 : Byte).toNat = 6 ∧ (3 : Byte).toNat = Action.deny.code ∧ ((withEntry limited).entry 6).state ≠ .vacant ∧
      (base.entry 6).state = .vacant ∧ inType .w2 false 200 = true ∧ (7 : Nat) ≤ Width.w2.span ∧
      ((withEntry limited).entry 6).group = none ∧ ((grouped idleGroup none none).entry 20).group.isSome = true ∧
      (100 : Int) ≤ 250 ∧ (250 : Int) ≤ 900 := by
  decide +kernel

/-- Each argument that TUNE_ENTRY and SET_FRESH refuse with BADARG, one payload for each. -/
theorem test_tuneEntry_and_setFresh_bad_arguments :
    ([⟨48, 3, 0x04, 200, 0, 7, 9⟩, ⟨6, 4, 0x04, 200, 0, 7, 9⟩, ⟨6, 3, 0x0C, 200, 199, 7, 9⟩, ⟨6, 3, 0x04, 65536, 0, 7, 9⟩,
        ⟨6, 3, 0x04, 200, 0, 65536, 9⟩, ⟨6, 3, 0x04, 251, 0, 7, 9⟩].map fun p =>
          after (.tuneEntry p) (withEntry { limited with period := some 3, fallback := some 250 })
            (fun t => t.held.status)) = List.replicate 6 (some .badArg) ∧
      ([⟨48, 0x60, 3, 250⟩, ⟨6, 0x60, 0, 250⟩, ⟨6, 0x40, 3, 250⟩, ⟨6, 0x60, 3, 65536⟩, ⟨6, 0x60, 3, 99⟩,
        ⟨6, 0x60, 3, 901⟩].map fun p => after (.setFresh p) (withEntry limited) (fun t => t.held.status)) =
          List.replicate 6 (some .badArg) := by
  decide +kernel

theorem test_witness_EntryCommandsActOnTheirEntry :
    (6 : Byte) = BitVec.ofNat 8 (6 : Fin 48).val ∧ (withEntry limited).enabledGroup ((withEntry limited).entry 6) = none ∧
      ((grouped idleGroup none none).enabledGroup ((grouped idleGroup none none).entry 20)).isSome = true ∧
      inType .w2 false (fieldValue false 0xFFFF) = true ∧ inType .w2 false (fieldValue false 0x10000) = false ∧
      (63 : Byte).toNat < 64 ∧ 64 ≤ (64 : Byte).toNat ∧
      ((withEntry { limited with state := .latched }).entry 6).state = .latched := by
  decide +kernel

theorem test_witness_ConfigGroupEnablesAndDisables :
    (3 : Byte).toNat = (2 : Fin 8).val + 1 ∧ (2 : Byte).getLsbD 1 = true ∧ (0 : Byte).getLsbD 1 = false ∧
      ([⟨0, 9, 2⟩, ⟨9, 9, 2⟩, ⟨3, 0, 2⟩].map fun p =>
        after (.configGroupEnable p) (grouped idleGroup none none) (fun t => t.held.status)) =
          List.replicate 3 (some .badArg) ∧
      [0, 9].map (fun b => after (.readGroup b) base (fun t => t.held.status)) = List.replicate 2 (some .badArg) ∧
      ((grouped idleGroup none none).members 2).length = 2 ∧ (base.members 2).length < 2 ∧
      ((grouped idleGroup none none).group 2).state = .idle ∧ ((grouped openGroup none none).group 2).state = .opened ∧
      (waiting.group 2).state = .commitWait := by
  decide +kernel

theorem test_witness_RingConfiguredAndTurnedOff :
    base.ringState = .running ∧ State.reset.ringState = .off ∧ { base with ringState := .stopped }.ringState = .stopped ∧
      (0x2000 : Word).toNat % 16 = 0 ∧ (0xFFFFFF80 : Word).toNat + 16 * 8 ≤ 2 ^ 32 ∧
      2 ^ 32 < (0xFFFFFF90 : Word).toNat + 16 * 8 ∧ (withEntry limited).overlapsEntry 0x200 128 ∧
      ¬ base.overlapsEntry 0x200 128 ∧ base.posting = .idle ∧ { base with posting := .reading }.posting ≠ .idle := by
  decide +kernel

theorem test_witness_RingPollActsByTheRingState :
    base.delivers 0x42 [] = true ∧ (posted (.ringRead 0) .reading).delivers 0x42 [] = true ∧
      (posted (.ringRead 0) .reading).posting = .reading ∧
      twoSlots.issueLog = { origin := .tqSlot 1, request := fpRead } :: [] ∧ twoSlots.ringState = .running := by
  decide +kernel

theorem test_witness_TickMaskAndCausesSet :
    State.alertActive { base with causes := 0x06, mask := 0x04 } = true ∧
      State.alertActive { base with causes := 0x06, mask := 0x09 } = false ∧
      State.alertActive { base with causes := 0x06, mask := 0x04, inReset := true } = false ∧
      (1 : Half).toNat = 1 ∧ (256 : Half).toNat = 256 ∧ (0 : Half).toNat = 0 ∧ 256 < (257 : Half).toNat := by
  decide +kernel

/-- A frame for the checker in progress, with these bytes received. -/
def received (bytes : List Byte) : State := { base with frame := .opened, receiver := bytes }

theorem received_without_crc : ¬ (received [0x42, 0x00]).frameCarries 0x42 [] := by
  rintro ⟨_, pad, h⟩
  cases h

theorem received_padded : (received (commandFrame 0x42 [] ++ [0x55])).frameCarries 0x42 [] := ⟨rfl, [0x55], rfl⟩

theorem test_witness_RefusedCommandsChangeNothing :
    managementCommand .ringPoll = some (0x42, []) ∧ (received [0x42, 0x00]).frame = .opened ∧
      ¬ (received [0x42, 0x00]).frameCarries 0x42 [] ∧
      (received (commandFrame 0x42 [] ++ [0x55])).frameCarries 0x42 [] ∧
      { base with frame := .void }.frame = .void ∧
      (after .ringPoll State.reset (fun t => t.held.status)) = some .state ∧ 48 ≤ (48 : Byte).toNat :=
  ⟨rfl, rfl, received_without_crc, received_padded, rfl, by decide +kernel⟩

end Sys2Proof.Tests
end

section
/-! SUPPORT. Proofs for chapter 2, judging a controller write: the clamp computation (R38). -/

namespace Sys2Proof.Machine

/-! ## Records and violations, as the entries and groups see them -/

section
variable (s : State) (i : Fin 48) (g : Fin 8)

@[simp] theorem State.entry_createRecord (d : Detail) (x : Subject) (a v : Word) :
    (s.createRecord d x a v).entry i = s.entry i := by
  obtain ⟨r, q, l, c, h⟩ := s.createRecord_changes d x a v
  rw [h]; rfl

@[simp] theorem State.group_createRecord (d : Detail) (x : Subject) (a v : Word) :
    (s.createRecord d x a v).group g = s.group g := by
  obtain ⟨r, q, l, c, h⟩ := s.createRecord_changes d x a v
  rw [h]; rfl

@[simp] theorem State.entry_tripIfDue_self (v : Word) :
    (s.tripIfDue v i).entry i = if (s.entry i).tripTest then (s.entry i).latch else s.entry i := by
  unfold State.tripIfDue
  dsimp only
  split <;> simp_all

@[simp] theorem State.group_tripIfDue (v : Word) : (s.tripIfDue v i).group g = s.group g := by
  unfold State.tripIfDue
  dsimp only
  split <;> simp

/-- A violation leaves its entry as the spec's counted one. -/
@[simp] theorem State.entry_violate_self (flags : BitVec 6) (d : Detail) (a v : Word) :
    (s.violate i flags d a v).entry i = (s.entry i).counted flags := by
  simp [State.violate, State.countAgainst, Entry.counted_eq]

@[simp] theorem State.group_violate (flags : BitVec 6) (d : Detail) (a v : Word) :
    (s.violate i flags d a v).group g = s.group g := by
  simp [State.violate, State.countAgainst]

@[simp] theorem Entry.group_counted (e : Entry) (flags : BitVec 6) : (e.counted flags).group = e.group := by
  unfold Entry.counted
  split <;> rfl

/-- Counting a violation changes no membership and no group, so the enabled group of the entry stays. -/
@[simp] theorem State.enabledGroup_violate_counted (flags flags' : BitVec 6) (d : Detail) (a v : Word) (e : Entry) :
    (s.violate i flags d a v).enabledGroup (e.counted flags') = s.enabledGroup e := by
  simp [State.enabledGroup]

/-! ## Acceptances and judgements -/

@[simp] theorem State.entry_countAcceptance : s.countAcceptance.entry i = s.entry i := rfl
@[simp] theorem State.mode_countAcceptance : s.countAcceptance.mode = s.mode := rfl
@[simp] theorem State.enabledGroup_countAcceptance (e : Entry) :
    s.countAcceptance.enabledGroup e = s.enabledGroup e := rfl

theorem exec_acceptance (r : NpRequest) : exec (.acceptance r) s = .next (s.acceptRequest r) := rfl

end

section
variable {s : State} {r : NpRequest} {i : Fin 48}

theorem State.accepts_of_hasRoom (h : s.hasRoom) : s.accepts = true := by
  obtain ⟨hreset, hslots⟩ := h
  simp [State.accepts, hreset, Config.tqSlots, hslots]

/-- The entries after an acceptance are those that the judgement leaves: filling the slot touches none. -/
theorem State.entry_acceptRequest (h : s.hasRoom) :
    (s.acceptRequest r).entry i = (s.countAcceptance.judge r (s.target r)).1.entry i := by
  rw [State.acceptRequest, if_pos (State.accepts_of_hasRoom h)]; rfl

/-- An exact write that meets the mode and passes the latched check is judged on its own value (R29, R30). -/
theorem State.judge_exact_write (hop : r.op = .write) (hmode : s.mode ≠ .bypass)
    (hlatched : ¬ (s.mode = .enforce ∧ (s.entry i).state = .latched)) :
    s.judge r (.exact i) = s.judgeValue r i (readValue (s.entry i).width (s.entry i).signed r.data) true := by
  have hguarded : s.judge r (.exact i) = s.judgeExact r i := by
    cases hm : s.mode with
    | bypass => exact absurd hm hmode
    | monitor => simp [State.judge, hop, State.judgeWrite, hm, State.judgeGuarded]
    | enforce => simp [State.judge, hop, State.judgeWrite, hm, State.judgeGuarded]
  have hcheck : s.latchedCheck i = false := by simpa [State.latchedCheck] using hlatched
  simp [hguarded, State.judgeExact, hcheck]

/-- A violating value under CLAMP: the violation counted, and the write admitted with the clamped value of the entry as it
stood before (R33, R35, R38). -/
theorem State.judgeValue_clamp {v : Int} {own : Bool} (hany : ((s.entry i).checks v).any = true)
    (haction : s.appliedAction (s.entry i) = .clamp) :
    ∃ d a x, s.judgeValue r i v own =
      (s.violate i ((s.entry i).checks v).sticky d a x).admitWrite r i ((s.entry i).clamped v) false :=
  ⟨_, _, _, by simp only [State.judgeValue, if_pos hany, haction] <;> rfl⟩

/-- A write admitted outside any enabled group goes into its entry (R36). -/
theorem State.entry_admitWrite_ungrouped {v : Int} {own : Bool} (h : s.enabledGroup (s.entry i) = none) :
    (s.admitWrite r i v own).1.entry i = (s.entry i).admitted v := by
  simp [State.admitWrite, h, Entry.admitted_eq]

end

/-! ## The target of the clamp (R38) -/

/-- The value lies in the target of R38: within the limits or the type's ends, and in the step window. -/
def Entry.inTarget (e : Entry) (x : Int) : Prop :=
  e.clampLow ≤ x ∧ x ≤ e.clampHigh ∧ e.windowLow ≤ x ∧ x ≤ e.windowHigh

section
variable {e : Entry} {x v ref : Int}

theorem Entry.inTarget_iff :
    e.inTarget x ↔ max e.clampLow e.windowLow ≤ x ∧ x ≤ min e.clampHigh e.windowHigh := by
  unfold Entry.inTarget; omega

/-- The step window is the type range, cut to the step around the reference where both are present (R38). -/
theorem Entry.mem_window_iff :
    (e.windowLow ≤ x ∧ x ≤ e.windowHigh) ↔ (e.width.typeMin e.signed ≤ x ∧ x ≤ e.width.typeMax e.signed ∧
      ∀ ref, e.step ≠ 0 → e.reference = some ref → ref - e.step ≤ x ∧ x ≤ ref + e.step) := by
  unfold Entry.windowLow Entry.windowHigh
  cases hr : e.reference with
  | none => simp
  | some r =>
    by_cases hs : e.step = 0
    · simp [hs]
    · simp [hs]; omega

/-- An interval with the members of a step window that is not empty has the window's ends. -/
theorem Entry.window_ends_unique {a b : Int} (hmem : ∀ x, (a ≤ x ∧ x ≤ b) ↔ (e.windowLow ≤ x ∧ x ≤ e.windowHigh))
    (hx : a ≤ x ∧ x ≤ b) : a = e.windowLow ∧ b = e.windowHigh := by
  have hwindow := (hmem x).mp hx
  have ha := (hmem a).mp (by omega)
  have hb := (hmem b).mp (by omega)
  have hlow := (hmem e.windowLow).mpr (by omega)
  have hhigh := (hmem e.windowHigh).mpr (by omega)
  omega

/-- A value of the target lies within the step of the reference. -/
theorem Entry.inTarget.within_step (hx : e.inTarget x) (hs : e.step ≠ 0) (hr : e.reference = some ref) :
    (x - ref).natAbs ≤ e.step := by
  obtain ⟨_, _, hwindow⟩ := hx
  obtain ⟨_, _, hstep⟩ := Entry.mem_window_iff.mp hwindow
  have := hstep ref hs hr
  omega

/-- A value of the target fails no check, so that a violating one is outside it (R38). -/
theorem Entry.not_inTarget_of_checks (hany : (e.checks v).any = true) : ¬ e.inTarget v := by
  intro hv
  have ⟨hlow, hhigh, _⟩ := hv
  have hbelow : (e.checks v).low = false := by
    cases hl : e.low <;> simp_all [Entry.checks, belowLow, Entry.clampLow]
  have habove : (e.checks v).high = false := by
    cases hh : e.high <;> simp_all [Entry.checks, aboveHigh, Entry.clampHigh]
  have hbeyond : (e.checks v).step = false := by
    cases hr : e.reference with
    | none => simp [Entry.checks, beyondStep, hr]
    | some ref =>
      have hwithin : e.step ≠ 0 → (v - ref).natAbs ≤ e.step := fun hs => hv.within_step hs hr
      simp only [Entry.checks, beyondStep, hr, Bool.and_eq_false_iff, decide_eq_false_iff_not]
      omega
  simp [Failed.any, hbelow, habove, hbeyond] at hany

/-! ## The clamped value -/

/-- Where the target is not empty, clamping is the projection onto the interval between its ends. -/
theorem Entry.clamped_eq_projection (hx : e.inTarget x) (v : Int) :
    e.clamped v = max (max e.clampLow e.windowLow) (min (min e.clampHigh e.windowHigh) v) := by
  obtain ⟨hlo, hhi⟩ := Entry.inTarget_iff.mp hx
  exact if_pos (Int.le_trans hlo hhi)

theorem Entry.clamped_inTarget (hx : e.inTarget x) (v : Int) : e.inTarget (e.clamped v) := by
  rw [Entry.clamped_eq_projection hx]
  rw [Entry.inTarget_iff] at hx ⊢
  omega

/-- No point of the target is nearer the value than the clamped value. -/
theorem Entry.clamped_nearest (hx : e.inTarget x) (v : Int) : (e.clamped v - v).natAbs ≤ (x - v).natAbs := by
  rw [Entry.clamped_eq_projection hx]
  rw [Entry.inTarget_iff] at hx
  omega

theorem Entry.clamped_of_inTarget (hv : e.inTarget v) : e.clamped v = v := by
  rw [Entry.clamped_eq_projection hv]
  rw [Entry.inTarget_iff] at hv
  omega

theorem Entry.clamped_of_below (hx : e.inTarget x) (hv : v < max e.clampLow e.windowLow) :
    e.clamped v = max e.clampLow e.windowLow := by
  rw [Entry.clamped_eq_projection hx]
  omega

theorem Entry.clamped_of_above (hx : e.inTarget x) (hv : min e.clampHigh e.windowHigh < v) :
    e.clamped v = min e.clampHigh e.windowHigh := by
  rw [Entry.clamped_eq_projection hx]
  rw [Entry.inTarget_iff] at hx
  omega

/-- A violating value is clamped to an end of the target. -/
theorem Entry.clamped_of_checks (hx : e.inTarget x) (hany : (e.checks v).any = true) :
    e.clamped v = max e.clampLow e.windowLow ∨ e.clamped v = min e.clampHigh e.windowHigh := by
  have hout := Entry.not_inTarget_of_checks hany
  rw [Entry.inTarget_iff] at hout
  have hside : v < max e.clampLow e.windowLow ∨ min e.clampHigh e.windowHigh < v := by omega
  exact hside.imp (Entry.clamped_of_below hx) (Entry.clamped_of_above hx)

end

/-- A violating exact write under CLAMP in ENFORCE to an ungrouped entry makes the clamped value its reference (R36, R38). -/
theorem State.reference_acceptRequest_clamp {s : State} {r : NpRequest} {i : Fin 48} {v : Int} (hroom : s.hasRoom)
    (hop : r.op = .write) (hmode : s.mode = .enforce) (htarget : s.target r = .exact i)
    (hlatched : (s.entry i).state ≠ .latched) (hgroup : s.enabledGroup (s.entry i) = none)
    (hv : v = readValue (s.entry i).width (s.entry i).signed r.data) (hany : ((s.entry i).checks v).any = true)
    (haction : (s.entry i).action = .clamp) :
    ((s.acceptRequest r).entry i).reference = some ((s.entry i).clamped v) := by
  have hjudge : s.countAcceptance.judge r (.exact i) = s.countAcceptance.judgeValue r i v true := by
    rw [hv]
    exact State.judge_exact_write hop (by simp [hmode]) fun h => hlatched h.2
  obtain ⟨d, a, x, hclamp⟩ := State.judgeValue_clamp (s := s.countAcceptance) (r := r) (own := true) hany
    (by simp [State.appliedAction, hmode, haction])
  rw [State.entry_acceptRequest hroom, htarget, hjudge, hclamp, State.entry_admitWrite_ungrouped (by simpa using hgroup)]
  rfl

/-- Settles O21: the ends of the interval that the statement characterises are the window's, and each clause is then a
property of the projection onto the target; the write that goes on is followed through its acceptance. -/
theorem clampedValueIsTheNearestOfTheTarget : Obligations.ClampedValueIsTheNearestOfTheTarget := by
  constructor
  · rintro e v l h a b rfl rfl hwindow ⟨x, hlx, hxh, hax, hxb⟩
    obtain ⟨rfl, rfl⟩ :=
      Entry.window_ends_unique (fun y => (hwindow y).trans Entry.mem_window_iff.symm) ⟨hax, hxb⟩
    have hx : e.inTarget x := ⟨hlx, hxh, hax, hxb⟩
    have hclamped : e.inTarget (e.clamped v) := Entry.clamped_inTarget hx v
    have ⟨hlow, hhigh, hwlow, hwhigh⟩ := hclamped
    exact ⟨hlow, hhigh, hwlow, hwhigh,
      fun y hly hyh hay hyb => Entry.clamped_nearest ⟨hly, hyh, hay, hyb⟩ v,
      fun hlv hvh hav hvb => Entry.clamped_of_inTarget ⟨hlv, hvh, hav, hvb⟩,
      Entry.clamped_of_below hx, Entry.clamped_of_above hx, Entry.clamped_of_checks hx,
      fun _ hs hr => hclamped.within_step hs hr⟩
  · intro r s i v hroom hop hmode htarget hlatched hgroup hv hany haction
    exact ⟨_, exec_acceptance s r,
      State.reference_acceptRequest_clamp hroom hop hmode htarget hlatched hgroup hv hany haction⟩

end Sys2Proof.Machine
end

section
/-! SUPPORT. Proofs for chapter 7, reports and the alert line: RING_POLL against the ring's other events (R141). -/

namespace Sys2Proof.Machine

section
variable {s : State}

/-! ## What leaves the ring as it stands -/

@[simp] theorem State.createRecord_ringState (s : State) (d : Detail) (x : Subject) (a v : Word) :
    (s.createRecord d x a v).ringState = s.ringState := by
  obtain ⟨r, q, l, c, h⟩ := s.createRecord_changes d x a v
  rw [h]

@[simp] theorem State.createRecord_posting (s : State) (d : Detail) (x : Subject) (a v : Word) :
    (s.createRecord d x a v).posting = s.posting := by
  obtain ⟨r, q, l, c, h⟩ := s.createRecord_changes d x a v
  rw [h]

@[simp] theorem State.memErr_ringState (s : State) (o : MemErrOrigin) (x : Subject) (a v : Word) :
    (s.memErr o x a v).ringState = s.ringState := by
  simp [State.memErr]

@[simp] theorem State.memErr_posting (s : State) (o : MemErrOrigin) (x : Subject) (a v : Word) :
    (s.memErr o x a v).posting = s.posting := by
  simp [State.memErr]

@[simp] theorem State.respond_ringState (r : Response) : (s.respond r).ringState = s.ringState := rfl
@[simp] theorem State.respond_posting (r : Response) : (s.respond r).posting = s.posting := rfl
@[simp] theorem State.respond_issueLog (r : Response) : (s.respond r).issueLog = s.issueLog := rfl

/-! ## RING_POLL by the ring state -/

/-- A delivered RING_POLL acts on the ring and answers. -/
theorem exec_ringPoll_delivered (h : s.delivers 0x42 [] = true) :
    exec .ringPoll s = .next ((ringPollAct s).1.respond (ringPollAct s).2) :=
  congrArg Host.Outcome.next (State.takeCommand_delivered h ringPollAct)

theorem exec_ringPoll_suspended (h : s.delivers 0x42 [] = true) (hring : s.ringState = .suspended) :
    exec .ringPoll s =
      .next ({ s with ringState := .running, posting := .idle }.respond Response.okEmpty) := by
  simp [exec_ringPoll_delivered h, ringPollAct, hring]

theorem exec_ringPoll_running (h : s.delivers 0x42 [] = true) (hring : s.ringState = .running) :
    exec .ringPoll s = .next (s.respond Response.okEmpty) := by
  simp [exec_ringPoll_delivered h, ringPollAct, hring]

theorem exec_ringPoll_refused (h : s.delivers 0x42 [] = true) (hring : s.ringState = .off ∨ s.ringState = .stopped) :
    exec .ringPoll s = .next (s.respond (Response.refusal .state)) := by
  rcases hring with hoff | hstopped
  · simp [exec_ringPoll_delivered h, ringPollAct, hoff]
  · simp [exec_ringPoll_delivered h, ringPollAct, hstopped]

/-! ## Memory answers and the ring -/

/-- An answer removes the oldest entry of the issue log and goes to that entry's owner (R91, R92). -/
theorem exec_memoryAnswer_cons {e : LogEntry} {rest : List LogEntry} (h : s.issueLog = e :: rest) (m : MemStatus)
    (d : Word) : exec (.memoryAnswer m d) s = .next ({ s with issueLog := rest }.dispatch e m d) := by
  have hanswer : s.memoryAnswer m d = { s with issueLog := rest }.dispatch e m d := by
    simp [State.memoryAnswer, h]
  exact congrArg Host.Outcome.next hanswer

/-- A completed write finds nothing to resume unless the ring is SUSPENDED (R140). -/
theorem State.offerWrite_of_not_suspended (h : s.ringState ≠ .suspended) (r : FpRequest) : s.offerWrite r = s :=
  if_neg fun hback => h hback.1

/-- The answer to a controller request leaves the ring state and the posting of a ring that is not SUSPENDED. -/
theorem State.answerTqSlot_keeps_ring (h : s.ringState ≠ .suspended) (n : Word) (r : FpRequest) (m : MemStatus)
    (d : Word) :
    (s.answerTqSlot n r m d).ringState = s.ringState ∧ (s.answerTqSlot n r m d).posting = s.posting := by
  unfold State.answerTqSlot
  split
  next => exact ⟨rfl, rfl⟩
  next x _ =>
    cases m with
    | ok =>
      cases r.op with
      | read => exact ⟨rfl, rfl⟩
      | write => simp [State.offerWrite_of_not_suspended, h]
    | error => cases r.op <;> simp

/-- The ownership read answered OK with the slot still the host's suspends the ring (R135). -/
theorem exec_memoryAnswer_owned {k : Nat} {q : FpRequest} {rest : List LogEntry} {d : Word}
    (hlog : s.issueLog = { origin := .ringRead k, request := q } :: rest) (howned : d.getLsbD 31 = true) :
    exec (.memoryAnswer .ok d) s =
      .next ({ s with issueLog := rest, ringState := .suspended, posting := .idle }.setCause causeRing) := by
  rw [exec_memoryAnswer_cons hlog]
  simp [State.dispatch, State.answerRingRead, howned]

/-! ## The two orders of a poll and the suspending answer -/

/-- The answer first: it suspends the ring, and the poll then resumes it with a fresh posting. -/
theorem poll_after_owned_answer (h : s.delivers 0x42 [] = true) {k : Nat} {q : FpRequest} {rest : List LogEntry}
    {d : Word} (hlog : s.issueLog = { origin := .ringRead k, request := q } :: rest) (howned : d.getLsbD 31 = true) :
    ∃ t u, exec (.memoryAnswer .ok d) s = .next t ∧ t.ringState = .suspended ∧ exec .ringPoll t = .next u ∧
      u.ringState = .running ∧ u.posting = .idle :=
  -- The answer touches neither the frame nor the receiver, so the poll is delivered after it as before.
  ⟨_, _, exec_memoryAnswer_owned hlog howned, rfl, exec_ringPoll_suspended h rfl, rfl, rfl⟩

/-- The poll first: it finds the ring RUNNING and has no effect, and the answer then suspends the ring. -/
theorem owned_answer_after_poll (h : s.delivers 0x42 [] = true) (hring : s.ringState = .running)
    (hposting : s.posting = .reading) {k : Nat} {q : FpRequest} {rest : List LogEntry} {d : Word}
    (hlog : s.issueLog = { origin := .ringRead k, request := q } :: rest) (howned : d.getLsbD 31 = true) :
    ∃ t u, exec .ringPoll s = .next t ∧ t.ringState = .running ∧ t.posting = .reading ∧
      exec (.memoryAnswer .ok d) t = .next u ∧ u.ringState = .suspended :=
  ⟨_, _, exec_ringPoll_running h hring, hring, hposting,
    exec_memoryAnswer_owned (s := s.respond Response.okEmpty) hlog howned, rfl⟩

end

/-- Settles O50: the poll is one case per ring state; an answer to a controller request can only resume a SUSPENDED ring, so
a release write completed after the poll leaves the RUNNING one; and the two orders against the suspending answer are
followed event by event. -/
theorem ringPollActsByTheRingState : Obligations.RingPollActsByTheRingState := by
  intro s hdelivers
  refine ⟨exec_ringPoll_suspended hdelivers, exec_ringPoll_running hdelivers, exec_ringPoll_refused hdelivers, ?_, ?_⟩
  · intro n q rest m d hring hlog
    obtain ⟨hkeptRing, hkeptPosting⟩ :=
      State.answerTqSlot_keeps_ring (s := { s with issueLog := rest }) (by simp [hring]) n q m d
    exact ⟨_, exec_memoryAnswer_cons hlog m d, hkeptRing.trans hring, hkeptPosting⟩
  · intro k q rest d hring hposting hlog howned
    exact ⟨poll_after_owned_answer hdelivers hlog howned,
      owned_answer_after_poll hdelivers hring hposting hlog howned⟩

end Sys2Proof.Machine
end

section
/-! SUPPORT. Proofs for chapter 9, the management link: the events of a frame followed from select's fall to its release,
and NOP (R160 to R167). -/

namespace Sys2Proof.Machine

section
variable {s : State} {code : Byte} {payload received : List Byte}

/-! ## Runs -/

theorem runAll_nil (s : State) : runAll [] s = some s := rfl

theorem runAll_cons_of_next {c : Instr} {t : State} (h : exec c s = .next t) (cs : List Instr) :
    runAll (c :: cs) s = runAll cs t := by
  simp [runAll, h]

/-! ## A frame in progress (R160, R161, R163) -/

/-- What the link shows once this many bytes of a frame are clocked: nothing yet, or the held response's byte at the place
of the last one (R163). -/
def State.shiftedOut (s : State) : Nat → Option Byte
  | 0 => none
  | k + 1 => some (s.held.bytes.getD k 0)

/-- The state in a frame that began in `s` and has received these bytes. -/
def State.inFrame (s : State) (received : List Byte) : State :=
  { s with frame := .opened, receiver := received, outByte := s.shiftedOut received.length }

@[simp] theorem State.inFrame_held : (s.inFrame received).held = s.held := rfl

/-- A frame shows no trace of itself after its release but the response (R164). -/
@[simp] theorem State.respond_inFrame (r : Response) : (s.inFrame received).respond r = s.respond r := rfl

theorem exec_frameStart_outside_reset (h : s.inReset = false) : exec .frameStart s = .next (s.inFrame []) := by
  have hstart : s.frameStart = s.inFrame [] := by simp [State.frameStart, State.inFrame, State.shiftedOut, h]
  exact congrArg Host.Outcome.next hstart

theorem exec_incomingByte_inFrame (b : Byte) :
    exec (.incomingByte b) (s.inFrame received) = .next (s.inFrame (received ++ [b])) := by
  have hbyte : (s.inFrame received).incomingByte b = s.inFrame (received ++ [b]) := by
    simp [State.incomingByte, State.inFrame, State.shiftedOut]
  exact congrArg Host.Outcome.next hbyte

/-- The bytes clocked in join the receiver, one after another. -/
theorem runAll_incomingBytes (cs : List Instr) : ∀ bytes received : List Byte,
    runAll (bytes.map .incomingByte ++ cs) (s.inFrame received) = runAll cs (s.inFrame (received ++ bytes))
  | [], received => by simp
  | b :: bytes, received => by
    rw [List.map_cons, List.cons_append, runAll_cons_of_next (exec_incomingByte_inFrame b),
      runAll_incomingBytes cs bytes, List.append_assoc, List.singleton_append]

/-- A run that begins with a frame's start and bytes goes on in that frame. -/
theorem runAll_frame (h : s.inReset = false) (bytes : List Byte) (cs : List Instr) :
    runAll (.frameStart :: bytes.map .incomingByte ++ cs) s = runAll cs (s.inFrame bytes) := by
  rw [List.cons_append, runAll_cons_of_next (exec_frameStart_outside_reset h), runAll_incomingBytes, List.nil_append]

/-! ## The release of a frame (R164) -/

theorem State.delivers_inFrame (h : s.inReset = false) (hframe : examineFrame received = .command code payload) :
    (s.inFrame received).delivers code payload = true := by
  simp [State.delivers, State.inFrame, h, hframe]

theorem exec_frameNotTaken_inFrame {status : Status} (hframe : examineFrame received = .notTaken status) :
    exec .frameNotTaken (s.inFrame received) = .next (s.respond (Response.refusal status)) := by
  have hrelease : (s.inFrame received).frameNotTaken = s.respond (Response.refusal status) := by
    simp [State.frameNotTaken, State.inFrame, hframe, State.releaseSelect, State.respond]
  exact congrArg Host.Outcome.next hrelease

/-! ## NOP (R167) -/

/-- The CRC register stays at 0x00 through bytes of 0x00 (R162). -/
theorem crc_nop : crc [0#8, 0#8] = 0#8 := by
  have hshift : crcShift 0#8 = 0#8 := rfl
  simp [crc, crcByte, Nat.repeat, hshift]

theorem Response.bytes_okEmpty : Response.okEmpty.bytes = [0x00, 0x00, 0x00] := by
  simp [Response.bytes, Response.okEmpty, Status.code, crc_nop]

/-- Of a frame with NOP's code and length the CRC byte decides, and what follows it is ignored (R161, R164). -/
theorem examineFrame_nop (check : Byte) (pad : List Byte) : examineFrame ([0x00, 0x00, check] ++ pad) =
    if check = 0x00 then .command 0x00 [] else .notTaken .badFrame := by
  simp [examineFrame, examineBody, crc_nop, commandLength]

theorem exec_nop_delivered (h : s.delivers 0x00 [] = true) : exec .nop s = .next (s.respond Response.okEmpty) :=
  congrArg Host.Outcome.next (State.takeCommand_delivered h _)

end

/-- Settles O42: each frame is followed to its release, where the bytes received decide between NOP and BADFRAME; what the
frame shifts out is the held response of the state in which it began. -/
theorem nopFrameOnlyCollects : Obligations.NopFrameOnlyCollects := by
  intro s pad hreset
  refine ⟨exec_nop_delivered, ?taken, ?refused, ?shifted, Response.bytes_okEmpty⟩
  case taken =>
    have hdelivers := State.delivers_inFrame hreset ((examineFrame_nop 0x00 pad).trans (if_pos rfl))
    rw [runAll_frame hreset, runAll_cons_of_next (exec_nop_delivered hdelivers), runAll_nil,
      State.respond_inFrame]
  case refused =>
    intro check hcheck
    have hrelease := exec_frameNotTaken_inFrame (s := s) ((examineFrame_nop check pad).trans (if_neg hcheck))
    rw [runAll_frame hreset, runAll_cons_of_next hrelease, runAll_nil]
  case shifted =>
    intro bytes b
    have hrun := runAll_frame hreset (bytes ++ [b]) []
    rw [List.append_nil] at hrun
    exact ⟨_, hrun, State.inFrame_held, by simp [State.inFrame, State.shiftedOut]⟩

end Sys2Proof.Machine
end

section
/-! SUPPORT. What one command can do, said once: the elementary writes that a judgement, an expiry and an abandonment are made
of, the events, and the effects of the management commands. Every law is then a case analysis over these. -/

namespace Sys2Proof.Machine

variable {s t u : State} {e e' : Entry}

/-! ## Lists and conditions -/

/-- Functions that agree on a list's elements keep the same of it. -/
theorem filterMap_of_mem {α β : Type} {f f' : α → Option β} : ∀ {l : List α}, (∀ a ∈ l, f a = f' a) →
    l.filterMap f = l.filterMap f'
  | [], _ => rfl
  | a :: l, h => by
    rw [List.filterMap_cons, List.filterMap_cons, h a List.mem_cons_self,
      filterMap_of_mem fun b hb => h b (List.mem_cons_of_mem a hb)]

theorem ite_of_iff {α : Type} {p q : Prop} [Decidable p] [Decidable q] {x y : α} (h : p ↔ q) :
    (if p then x else y) = if q then x else y := ite_congr (propext h) (fun _ => rfl) fun _ => rfl

/-! ## What stays of an entry through every event (R12) -/

/-- The entry keeps its place and its rules, and stays VACANT or occupied. -/
structure Entry.SameSetup (e e' : Entry) : Prop where
  fields : e' = { e with
    state := e'.state, reference := e'.reference, remaining := e'.remaining, mark := e'.mark
    violations := e'.violations, denials := e'.denials, sticky := e'.sticky }
  vacant : e'.state = .vacant ↔ e.state = .vacant

theorem Entry.SameSetup.refl (e : Entry) : e.SameSetup e := ⟨rfl, Iff.rfl⟩

theorem Entry.SameSetup.trans {e'' : Entry} (h : e.SameSetup e') (h' : e'.SameSetup e'') : e.SameSetup e'' :=
  ⟨by rw [h'.fields, h.fields], h'.vacant.trans h.vacant⟩

section
variable (h : e.SameSetup e')
include h

theorem Entry.SameSetup.address : e'.address = e.address := by rw [h.fields]
theorem Entry.SameSetup.width : e'.width = e.width := by rw [h.fields]
theorem Entry.SameSetup.signed : e'.signed = e.signed := by rw [h.fields]
theorem Entry.SameSetup.group : e'.group = e.group := by rw [h.fields]
theorem Entry.SameSetup.low : e'.low = e.low := by rw [h.fields]
theorem Entry.SameSetup.high : e'.high = e.high := by rw [h.fields]
theorem Entry.SameSetup.step : e'.step = e.step := by rw [h.fields]
theorem Entry.SameSetup.trip : e'.trip = e.trip := by rw [h.fields]
theorem Entry.SameSetup.period : e'.period = e.period := by rw [h.fields]
theorem Entry.SameSetup.fallback : e'.fallback = e.fallback := by rw [h.fields]

/-- The value law follows an entry through an event that leaves its reference lawful. -/
theorem Entry.SameSetup.valueLawful (hv : e.ValueLawful)
    (href : ∀ v, e'.reference = some v → inType e.width e.signed v = true) : e'.ValueLawful where
  low := by rw [h.low, h.width, h.signed]; exact hv.low
  high := by rw [h.high, h.width, h.signed]; exact hv.high
  ordered := by rw [h.low, h.high]; exact hv.ordered
  fallback := by rw [h.low, h.high, h.fallback, h.width, h.signed]; exact hv.fallback
  reference := by rw [h.width, h.signed]; exact href
  step := by rw [h.step, h.width]; exact hv.step
  trip := by rw [h.trip]; exact hv.trip

end

/-! ## What a judged state shares with the state before -/

section
variable (h : s.JudgedFrom t)
include h

theorem State.JudgedFrom.pending : t.pending = s.pending := by rw [h]
theorem State.JudgedFrom.inReset : t.inReset = s.inReset := by rw [h]
theorem State.JudgedFrom.slots : t.slots = s.slots := by rw [h]
theorem State.JudgedFrom.accepted : t.accepted = s.accepted := by rw [h]
theorem State.JudgedFrom.commitBuffer : t.commitBuffer = s.commitBuffer := by rw [h]
theorem State.JudgedFrom.fpRequest : t.fpRequest = s.fpRequest := by rw [h]
theorem State.JudgedFrom.issueLog : t.issueLog = s.issueLog := by rw [h]
theorem State.JudgedFrom.drain : t.drain = s.drain := by rw [h]
theorem State.JudgedFrom.tickLength : t.tickLength = s.tickLength := by rw [h]
theorem State.JudgedFrom.tickCounter : t.tickCounter = s.tickCounter := by rw [h]
theorem State.JudgedFrom.ringState : t.ringState = s.ringState := by rw [h]
theorem State.JudgedFrom.ringBase : t.ringBase = s.ringBase := by rw [h]
theorem State.JudgedFrom.ringSlots : t.ringSlots = s.ringSlots := by rw [h]
theorem State.JudgedFrom.head : t.head = s.head := by rw [h]
theorem State.JudgedFrom.posting : t.posting = s.posting := by rw [h]
theorem State.JudgedFrom.mask : t.mask = s.mask := by rw [h]
theorem State.JudgedFrom.mode : t.mode = s.mode := by rw [h]

end

/-! ## The elementary writes of an entry -/

/-- What a judgement or an expiry can do to an entry in one write, in this mode and at this number of acceptances. -/
inductive Entry.Touched (m : Mode) (accepted : Nat) : Entry → Entry → Prop
  | counted (e : Entry) (flags : BitVec 6) : Entry.Touched m accepted e (e.countViolation flags)
  | latched (e : Entry) (due : e.tripTest = true) : Entry.Touched m accepted e e.latch
  | denied (e : Entry) : Entry.Touched m accepted e e.countDenial
  | admitted (e : Entry) (v : Int) (occupied : e.state ≠ .vacant)
      (typed : e.ValueLawful → inType e.width e.signed v = true) : Entry.Touched m accepted e (e.admitValue v)
  | expired (e : Entry) (runs : e.deadlineRuns m = true) :
      Entry.Touched m accepted e (e.expire (decide (m = .enforce) && e.fallback.isSome) accepted)

theorem Entry.sameSetup_countViolation (e : Entry) (flags : BitVec 6) : e.SameSetup (e.countViolation flags) :=
  ⟨rfl, Iff.rfl⟩

theorem Entry.state_of_tripTest (h : e.tripTest = true) : e.state = .ready ∨ e.state = .stale := by
  simp only [Entry.tripTest, Bool.and_eq_true, Bool.or_eq_true, decide_eq_true_eq] at h
  exact h.1.2

theorem Entry.state_of_deadlineRuns {m : Mode} (h : e.deadlineRuns m = true) : e.state = .ready ∧ m ≠ .bypass := by
  simpa [Entry.deadlineRuns] using h

theorem Entry.sameSetup_latch (h : e.state ≠ .vacant) : e.SameSetup e.latch :=
  ⟨rfl, by simp [Entry.latch, h]⟩

theorem Entry.sameSetup_admitValue (h : e.state ≠ .vacant) (v : Int) : e.SameSetup (e.admitValue v) := by
  unfold Entry.admitValue
  split
  · exact ⟨rfl, Iff.rfl⟩
  · exact ⟨rfl, by simp [h]⟩

theorem Entry.sameSetup_expire (h : e.state ≠ .vacant) (pend : Bool) (accepted : Nat) :
    e.SameSetup (e.expire pend accepted) :=
  ⟨rfl, by simp [Entry.expire, h]⟩

theorem Entry.Touched.sameSetup {m : Mode} {accepted : Nat} (h : Entry.Touched m accepted e e') : e.SameSetup e' := by
  cases h with
  | counted flags => exact e.sameSetup_countViolation flags
  | latched due =>
    exact Entry.sameSetup_latch (by rcases Entry.state_of_tripTest due with h | h <;> simp [h])
  | denied => exact ⟨rfl, Iff.rfl⟩
  | admitted v occupied _ => exact Entry.sameSetup_admitValue occupied v
  | expired runs => exact Entry.sameSetup_expire (by simp [(Entry.state_of_deadlineRuns runs).1]) _ _

/-! ## The elementary writes of the state -/

/-- What a judgement, an expiry or an abandonment does to the state in one write. A value staged or admitted is of its
entry's type where the entry keeps the value law. -/
inductive State.Worked : State → State → Prop
  | entry (s : State) (i : Fin 48) (e : Entry) (touched : (s.entry i).Touched s.mode s.accepted e) :
      State.Worked s (s.setEntry i e)
  | record (s : State) (d : Detail) (x : Subject) (a v : Word) : State.Worked s (s.createRecord d x a v)
  | cause (s : State) (c : Byte) : State.Worked s (s.setCause c)
  | staged (s : State) (g : Fin 8) (i : Fin 48) (v : Int) (grouped : s.enabledGroup (s.entry i) = some g)
      (occupied : (s.entry i).state ≠ .vacant)
      (typed : (s.entry i).ValueLawful → inType (s.entry i).width (s.entry i).signed v = true) :
      State.Worked s (s.stage g i v)
  | restaged (s : State) (i : Fin 48) (v : Option Int) (waits : s.inCommitWait i = true)
      (occupied : (s.entry i).state ≠ .vacant) (kept : (s.stagedValue i).isSome = true → v.isSome = true)
      (typed : ∀ x, v = some x → inType (s.entry i).width (s.entry i).signed x = true) :
      State.Worked s (s.setStaged i v)
  | abandoned (s : State) (g : Fin 8) (c : AbandonCause) (opened : (s.group g).state = .opened) :
      State.Worked s (s.abandon g c)

/-- Several elementary writes in turn. -/
inductive State.WorkedTo (s : State) : State → Prop
  | refl : State.WorkedTo s s
  | tail {t u : State} (earlier : State.WorkedTo s t) (last : t.Worked u) : State.WorkedTo s u

theorem State.WorkedTo.single (h : s.Worked t) : s.WorkedTo t := .tail .refl h

theorem State.WorkedTo.trans (h : s.WorkedTo t) (h' : t.WorkedTo u) : s.WorkedTo u := by
  induction h' with
  | refl => exact h
  | tail _ hlast ih => exact ih.tail hlast

/-- What every elementary write keeps, a run of them keeps. -/
theorem State.WorkedTo.keeps {P : State → Prop} (hP : ∀ {s t : State}, s.Worked t → P s → P t)
    (h : s.WorkedTo t) (hs : P s) : P t := by
  induction h with
  | refl => exact hs
  | tail _ hstep ih => exact hP hstep ih

theorem State.Worked.judged (h : s.Worked t) : s.JudgedFrom t := by
  cases h with
  | entry i e _ => exact s.setEntry_judged i e
  | record d x a v => exact s.createRecord_judged d x a v
  | cause c => exact s.setCause_judged c
  | staged g i v _ _ _ => exact s.stage_judged g i v
  | restaged i v _ _ _ _ => exact s.setStaged_judged i v
  | abandoned g c _ => exact s.abandon_judged g c

theorem State.foldl_worked {α : Type} (f : State → α → State) (hf : ∀ (s : State) (a : α), s.WorkedTo (f s a)) :
    ∀ (l : List α) (s : State), s.WorkedTo (l.foldl f s)
  | [], _ => .refl
  | a :: l, s => (hf s a).trans (State.foldl_worked f hf l (f s a))

@[simp] theorem State.entry_stage (s : State) (g : Fin 8) (i j : Fin 48) (v : Int) :
    (s.stage g i v).entry j = s.entry j := by
  unfold State.stage
  dsimp only
  split
  · rfl
  · split <;> rfl
  · split <;> rfl

@[simp] theorem State.entry_abandon (s : State) (g : Fin 8) (c : AbandonCause) (i : Fin 48) :
    (s.abandon g c).entry i = s.entry i := by
  simp [State.abandon]

/-- An elementary write leaves every entry its place and its rules. -/
theorem State.Worked.sameSetup (h : s.Worked t) (j : Fin 48) : (s.entry j).SameSetup (t.entry j) := by
  cases h with
  | entry i e touched =>
    rw [State.entry_setEntry]
    split
    · next hij => subst hij; exact touched.sameSetup
    · exact .refl _
  | record d x a v => simpa using Entry.SameSetup.refl _
  | cause c => exact .refl _
  | staged g i v _ _ _ => simpa using Entry.SameSetup.refl _
  | restaged i v _ _ _ _ => exact .refl _
  | abandoned g c _ => simpa using Entry.SameSetup.refl _

theorem State.WorkedTo.sameSetup (h : s.WorkedTo t) (j : Fin 48) : (s.entry j).SameSetup (t.entry j) :=
  h.keeps (P := fun t => (s.entry j).SameSetup (t.entry j)) (fun hw hs => hs.trans (hw.sameSetup j)) (.refl _)

theorem State.WorkedTo.judged (h : s.WorkedTo t) : s.JudgedFrom t :=
  h.keeps (P := fun t => s.JudgedFrom t) (fun hw hs => hs.trans hw.judged) (.refl _)

end Sys2Proof.Machine
end

section
/-! SUPPORT. A judgement, an expiry and an abandonment are runs of elementary writes. -/

namespace Sys2Proof.Machine

variable {s t : State} {e : Entry}

/-! ## Values of a type (R2, R3) -/

theorem inType_iff {w : Width} {signed : Bool} {v : Int} :
    inType w signed v = true ↔ w.typeMin signed ≤ v ∧ v ≤ w.typeMax signed := by
  simp [inType]

/-- What is read from a word in a type is of that type. -/
theorem inType_readValue (w : Width) (signed : Bool) (x : Word) : inType w signed (readValue w signed x) = true := by
  rw [inType_iff]
  cases signed with
  | false =>
    have hlt := (x.setWidth (8 * w.bytes)).isLt
    simp only [readValue, Bool.false_eq_true, if_false]
    generalize (x.setWidth (8 * w.bytes)).toNat = n at *
    cases w <;> simp [Width.typeMin, Width.typeMax, Width.bytes] at * <;> omega
  | true =>
    have hlow := (x.setWidth (8 * w.bytes)).le_toInt
    have hhigh := (x.setWidth (8 * w.bytes)).toInt_lt
    simp only [readValue, if_true]
    generalize (x.setWidth (8 * w.bytes)).toInt = n at *
    cases w <;> simp [Width.typeMin, Width.typeMax, Width.bytes] at * <;> omega

theorem Width.typeMin_le_typeMax (w : Width) (signed : Bool) : w.typeMin signed ≤ w.typeMax signed := by
  cases signed <;> cases w <;> simp [Width.typeMin, Width.typeMax]

/-- The clamped value of an entry that keeps the value law is of its type (R38, R39). -/
theorem Entry.inType_clamped (h : e.ValueLawful) (v : Int) : inType e.width e.signed (e.clamped v) = true := by
  have htype := e.width.typeMin_le_typeMax e.signed
  have hlow : e.width.typeMin e.signed ≤ e.clampLow := by
    cases hl : e.low with
    | none => simp [Entry.clampLow, hl]
    | some l => simpa [Entry.clampLow, hl] using (inType_iff.mp (h.low l hl)).1
  have hhigh : e.clampHigh ≤ e.width.typeMax e.signed := by
    cases hl : e.high with
    | none => simp [Entry.clampHigh, hl]
    | some l => simpa [Entry.clampHigh, hl] using (inType_iff.mp (h.high l hl)).2
  have hwindow : e.width.typeMin e.signed ≤ e.windowLow ∧ e.windowLow ≤ e.width.typeMax e.signed ∧
      e.width.typeMin e.signed ≤ e.windowHigh ∧ e.windowHigh ≤ e.width.typeMax e.signed := by
    unfold Entry.windowLow Entry.windowHigh
    cases hr : e.reference with
    | none => simp [htype]
    | some ref =>
      have href := inType_iff.mp (h.reference ref hr)
      by_cases hs : e.step = 0
      · simp [hs, htype]
      · simp only [hs, if_false]; omega
  rw [inType_iff]
  simp only [Entry.clamped]
  split
  · omega
  · split <;> omega

/-- Counting a violation leaves the value law as it stood. -/
theorem Entry.valueLawful_counted {flags : BitVec 6} : (e.counted flags).ValueLawful → e.ValueLawful := by
  intro h
  unfold Entry.counted at h
  split at h
  · exact ⟨h.low, h.high, h.ordered, h.fallback, h.reference, h.step, h.trip⟩
  · exact ⟨h.low, h.high, h.ordered, h.fallback, h.reference, h.step, h.trip⟩

/-! ## Violations -/

theorem State.countAgainst_workedTo (s : State) (flags : BitVec 6) (i : Fin 48) :
    s.WorkedTo (s.countAgainst flags i) :=
  .single (.entry s i _ (.counted _ flags))

theorem State.tripIfDue_workedTo (s : State) (v : Word) (i : Fin 48) : s.WorkedTo (s.tripIfDue v i) := by
  unfold State.tripIfDue
  dsimp only
  split
  · next due => exact .tail (.tail (.single (.entry s i _ (.latched _ due))) (.record _ _ _ _ _)) (.cause _ _)
  · exact .refl

theorem State.violate_workedTo (s : State) (i : Fin 48) (flags : BitVec 6) (d : Detail) (a v : Word) :
    s.WorkedTo (s.violate i flags d a v) :=
  (((s.countAgainst_workedTo flags i).tail (.record _ _ _ _ _)).tail (.cause _ _)).trans
    (State.tripIfDue_workedTo _ _ _)

/-! ## Whole values -/

theorem State.admitWrite_workedTo (r : NpRequest) (i : Fin 48) (v : Int) (own : Bool)
    (occupied : (s.entry i).state ≠ .vacant)
    (typed : (s.entry i).ValueLawful → inType (s.entry i).width (s.entry i).signed v = true) :
    s.WorkedTo (s.admitWrite r i v own).1 := by
  unfold State.admitWrite
  dsimp only
  split
  · next g hg => exact .single (.staged s g i v hg occupied typed)
  · exact .single (.entry s i _ (.admitted _ v occupied typed))

theorem State.judgeValue_workedTo (r : NpRequest) (i : Fin 48) (v : Int) (own : Bool)
    (occupied : (s.entry i).state ≠ .vacant) (typed : inType (s.entry i).width (s.entry i).signed v = true) :
    s.WorkedTo (s.judgeValue r i v own).1 := by
  have hviolate (flags d a x) : s.WorkedTo (s.violate i flags d a x) := s.violate_workedTo i flags d a x
  have hadmit (flags d a x) (w : Int) (own' : Bool)
      (hw : (s.entry i).ValueLawful → inType (s.entry i).width (s.entry i).signed w = true) :
      s.WorkedTo ((s.violate i flags d a x).admitWrite r i w own').1 := by
    have hsetup := (hviolate flags d a x).sameSetup i
    refine (hviolate flags d a x).trans
      (State.admitWrite_workedTo r i w own' (fun hv => occupied (hsetup.vacant.mp hv)) fun hlawful => ?_)
    rw [hsetup.width, hsetup.signed]
    rw [State.entry_violate_self] at hlawful
    exact hw (Entry.valueLawful_counted hlawful)
  unfold State.judgeValue
  dsimp only
  split
  · split
    · exact hadmit _ _ _ _ v own fun _ => typed
    · exact hadmit _ _ _ _ _ false fun h => Entry.inType_clamped h v
    · exact hviolate _ _ _ _
    · exact hviolate _ _ _ _
  · exact State.admitWrite_workedTo r i v own occupied fun _ => typed

/-! ## The judgement -/

/-- The entry that a target names alone is occupied. -/
def Target.OccupiedIn (s : State) (t : Target) : Prop :=
  ∀ i, t = .exact i ∨ t = .partialTo i → (s.entry i).state ≠ .vacant

theorem State.denyLatched_workedTo (s : State) (i : Fin 48) : s.WorkedTo (s.denyLatched i).1 :=
  .single (.entry s i _ (.denied _))

theorem State.judgeGuarded_workedTo (r : NpRequest) {t : Target} (ht : t.OccupiedIn s) :
    s.WorkedTo (s.judgeGuarded r t).1 := by
  cases t with
  | malformed => exact .refl
  | unwatched => exact .refl
  | exact i =>
    simp only [State.judgeGuarded, State.judgeExact]
    split
    · exact s.denyLatched_workedTo i
    · exact State.judgeValue_workedTo r i _ true (ht i (.inl rfl)) (inType_readValue _ _ _)
  | partialTo i =>
    simp only [State.judgeGuarded, State.judgePartial]
    split
    · exact s.denyLatched_workedTo i
    · split
      · exact State.judgeValue_workedTo r i _ false (ht i (.inr rfl)) (inType_readValue _ _ _)
      · exact s.violate_workedTo i _ _ _ _
  | straddling is =>
    exact (((State.foldl_worked _ (fun s i => s.countAgainst_workedTo _ i) is s).tail
      (.record _ _ _ _ _)).tail (.cause _ _)).trans (State.foldl_worked _ (fun s i => s.tripIfDue_workedTo _ i) is _)

theorem State.judgeBypass_workedTo (r : NpRequest) {t : Target} (ht : t.OccupiedIn s) :
    s.WorkedTo (s.judgeBypass r t).1 := by
  cases t with
  | malformed => exact .refl
  | unwatched => exact .refl
  | straddling is => exact .refl
  | exact i =>
    simp only [State.judgeBypass]
    split
    · next hw =>
      refine .single (.restaged s i _ hw (ht i (.inl rfl)) (fun _ => rfl) ?_)
      rintro x ⟨rfl⟩
      exact inType_readValue _ _ _
    · exact .refl
  | partialTo i =>
    simp only [State.judgeBypass]
    split
    · next hw =>
      refine .single (.restaged s i _ hw (ht i (.inr rfl)) (by simp) ?_)
      intro x hx
      obtain ⟨b, -, rfl⟩ := Option.map_eq_some_iff.mp hx
      exact inType_readValue _ _ _
    · exact .refl

theorem State.judge_workedTo (r : NpRequest) {t : Target} (ht : t.OccupiedIn s) : s.WorkedTo (s.judge r t).1 := by
  have hwrite : s.WorkedTo (s.judgeWrite r t).1 := by
    unfold State.judgeWrite
    split
    · exact State.judgeBypass_workedTo r ht
    · exact State.judgeGuarded_workedTo r ht
    · exact State.judgeGuarded_workedTo r ht
  unfold State.judge
  split
  · exact .tail (.single (.record _ _ _ _ _)) (.cause _ _)
  · split
    · exact .refl
    · exact hwrite

theorem State.mem_coveredEntries {a n : Nat} {i : Fin 48} :
    i ∈ s.coveredEntries a n ↔ (s.entry i).state ≠ .vacant ∧ (s.entry i).address.toNat < a + n ∧
      a < (s.entry i).address.toNat + (s.entry i).width.bytes := by
  simp [State.coveredEntries, Entry.occupied, Entry.meets, rangesMeet]

/-- A request's exact or partial entry is occupied (R23). -/
theorem State.target_occupiedIn (s : State) (r : NpRequest) : (s.target r).OccupiedIn s := by
  intro i hi
  unfold State.target at hi
  split at hi
  · rcases hi with hi | hi <;> cases hi
  · split at hi
    · rcases hi with hi | hi <;> cases hi
    · next j hj =>
      have hji : j = i := by
        unfold oneCovered at hi
        split at hi
        · rcases hi with hi | hi <;> cases hi; rfl
        · split at hi
          · rcases hi with hi | hi <;> cases hi; rfl
          · rcases hi with hi | hi <;> cases hi
      have hmem : i ∈ s.coveredEntries r.address.toNat (requestWidth r).bytes := by simp [hj, hji]
      exact (State.mem_coveredEntries.mp hmem).1
    · rcases hi with hi | hi <;> cases hi

/-- The judgement of an accepted request is a run of elementary writes. -/
theorem State.judge_target_workedTo (s : State) (r : NpRequest) :
    s.countAcceptance.WorkedTo (s.countAcceptance.judge r (s.target r)).1 :=
  State.judge_workedTo r (s.target_occupiedIn r)

/-! ## Expiries and abandonments -/

theorem State.expireEntry_workedTo (s : State) (i : Fin 48) : s.WorkedTo (s.expireEntry i) := by
  unfold State.expireEntry
  dsimp only
  split
  · next h =>
    exact .tail (.tail (.single (.entry s i _ (.expired _ h.1))) (.record _ _ _ _ _)) (.cause _ _)
  · exact .refl

theorem State.expireGroup_workedTo (s : State) (g : Fin 8) : s.WorkedTo (s.expireGroup g) := by
  unfold State.expireGroup
  split
  · next h => exact .single (.abandoned s g _ h.1)
  · exact .refl

theorem State.tickEvent_workedTo (s : State) : s.tickCountdowns.WorkedTo s.tickEvent :=
  (State.foldl_worked _ (fun s i => s.expireEntry_workedTo i) _ _).trans
    (State.foldl_worked _ (fun s g => s.expireGroup_workedTo g) _ _)

theorem State.abandonIfOpen_workedTo (s : State) (g : Fin 8) : s.WorkedTo (s.abandonIfOpen g) := by
  unfold State.abandonIfOpen
  split
  · next h => exact .single (.abandoned s g _ h)
  · exact .refl

theorem State.abandonOpen_workedTo (s : State) : s.WorkedTo s.abandonOpen :=
  State.foldl_worked _ (fun s g => s.abandonIfOpen_workedTo g) _ s

theorem State.endRound_workedTo (s : State) (g : Fin 8) : s.WorkedTo (s.endRound g) := by
  unfold State.endRound
  split
  · next h => exact .single (.abandoned s g _ h)
  · exact .refl

end Sys2Proof.Machine
end

section
/-! SUPPORT. The inversion of a step: what the events and the management commands do to the blocks that the laws speak of. -/

namespace Sys2Proof.Machine

variable {s t u : State}

/-! ## What no law speaks of -/

/-- The state `t` differs from `s` at most in what no law speaks of: the queue, the reset input, the channels of the near
port, the time base, the causes with their mask, and the link. -/
def State.SameBlocks (s t : State) : Prop :=
  t = { s with
    pending := t.pending, inReset := t.inReset, presented := t.presented, npAnswer := t.npAnswer
    tickLength := t.tickLength, intervalLength := t.intervalLength, clkCount := t.clkCount, usCount := t.usCount
    causes := t.causes, mask := t.mask, frame := t.frame, receiver := t.receiver, held := t.held, outByte := t.outByte }

theorem State.SameBlocks.refl (s : State) : s.SameBlocks s := rfl

theorem State.sameBlocks_respond (s : State) (r : Response) : s.SameBlocks (s.respond r) := rfl

/-! ## Events -/

/-- What an event, or a CLK period with no command, can do. -/
inductive State.Event (s : State) : State → Prop
  | idle {t : State} (same : s.SameBlocks t) : State.Event s t
  | accept (r : NpRequest) (room : s.slots.length < Config.tqSlots) (j : State × Verdict)
      (judged : j = s.countAcceptance.judge r (s.target r)) :
      State.Event s { j.1 with slots := j.1.slots ++ [slotOf s.acceptCount r (s.target r) j.2] }
  | send (x : Slot) (rest : List Slot) (slots : s.slots = x :: rest) (answered : x.state ≠ .waitMemory)
      (a : NpAnswer) : State.Event s { s with slots := rest, npAnswer := some a }
  | issue (x : Slot) (granted : s.grant = some .controller) (oldest : s.controllerCandidate = some x) :
      State.Event s ({ s with slots := markIssued s.slots }.issueRequest (.tqSlot x.number) (slotRequest x))
  | commitStart (g : Fin 8) (granted : s.grant = some (.commitStart g)) :
      State.Event s (s.beginCommit g).issueCommitWrite
  | commitWrite (granted : s.grant = some .commitWrite) : State.Event s s.issueCommitWrite
  | fallback (i : Fin 48) (granted : s.grant = some (.fallback i)) : State.Event s (s.issueFallbackOf i)
  | ownershipRead (granted : s.grant = some .posting) (idle : s.posting = .idle) (q : FpRequest) :
      State.Event s ({ s with posting := .reading }.issueRequest (.ringRead s.head) q)
  | recordWrite (granted : s.grant = some .posting) (w : Fin 4) (offered : s.posting = .offered w) (q : FpRequest) :
      State.Event s ({ s with posting := .writing w }.issueRequest (.ringWrite s.head w) q)
  | answer (e : LogEntry) (rest : List LogEntry) (log : s.issueLog = e :: rest) (m : MemStatus) (d : Word) :
      State.Event s ({ s with issueLog := rest }.dispatch e m d)
  | discard (log : s.issueLog = []) : State.Event s s.discardAnswer
  | tick : State.Event s s.tickEvent
  | expireEntry (i : Fin 48) : State.Event s (s.expireEntry i)
  | expireGroup (g : Fin 8) : State.Event s (s.expireGroup g)
  | reset (power : Bool) : State.Event s (s.deviceReset power)

theorem State.Event.stay (s : State) : s.Event s := .idle (.refl s)

section
variable (s : State)

theorem State.acceptRequest_event (r : NpRequest) : s.Event (s.acceptRequest r) := by
  unfold State.acceptRequest
  split
  · next h =>
    simp only [State.accepts, Bool.and_eq_true, decide_eq_true_eq] at h
    exact .accept r h.2 _ rfl
  · exact .idle rfl

theorem State.sendAnswer_event : s.Event s.sendAnswer := by
  unfold State.sendAnswer
  split
  · next x rest _ hslots =>
    split
    · next hx => exact .send x rest hslots (by simp [hx]) _
    · exact .stay s
    · exact .stay s
  · exact .stay s

theorem State.issueSlot_event : s.Event s.issueSlot := by
  unfold State.issueSlot
  split
  · next x hgrant hx => exact .issue x hgrant hx
  · exact .stay s

theorem State.commitStart_event : s.Event s.commitStart := by
  unfold State.commitStart
  split
  · next g hgrant => exact .commitStart g hgrant
  · exact .stay s

theorem State.commitMemberWrite_event : s.Event s.commitMemberWrite := by
  unfold State.commitMemberWrite
  split
  · next hgrant => exact .commitWrite hgrant
  · exact .stay s

theorem State.issueFallback_event : s.Event s.issueFallback := by
  unfold State.issueFallback
  split
  · next i hgrant => exact .fallback i hgrant
  · exact .stay s

theorem State.ownershipRead_event : s.Event s.ownershipRead := by
  unfold State.ownershipRead
  split
  · next hgrant hidle => exact .ownershipRead hgrant hidle _
  · exact .stay s

theorem State.ringRecordWrite_event : s.Event s.ringRecordWrite := by
  unfold State.ringRecordWrite
  split
  · next w r _ hgrant hoffered _ => exact .recordWrite hgrant w hoffered _
  · exact .stay s

theorem State.memoryAnswer_event (m : MemStatus) (d : Word) : s.Event (s.memoryAnswer m d) := by
  unfold State.memoryAnswer
  split
  · next e rest hlog => exact .answer e rest hlog m d
  · next hlog => exact .discard hlog

theorem State.tick_event : s.Event s.tick := by
  unfold State.tick
  split
  · exact .stay s
  · exact .tick

theorem State.deadlineExpiry_event (i : Fin 48) : s.Event (s.deadlineExpiry i) := by
  unfold State.deadlineExpiry
  split
  · split
    · exact .expireEntry i
    · exact s.tick_event
    · exact .stay s
  · exact .stay s

theorem State.timeoutExpiry_event (g : Fin 8) : s.Event (s.timeoutExpiry g) := by
  unfold State.timeoutExpiry
  split
  · split
    · exact .expireGroup g
    · exact s.tick_event
    · exact .stay s
  · exact .stay s

theorem State.frameNotTaken_sameBlocks : s.SameBlocks s.frameNotTaken := by
  unfold State.frameNotTaken
  split
  · rfl
  · rfl
  · split <;> rfl

theorem State.incomingByte_sameBlocks (b : Byte) : s.SameBlocks (s.incomingByte b) := by
  unfold State.incomingByte
  split <;> rfl

theorem State.resetRelease_sameBlocks : s.SameBlocks s.resetRelease := by
  unfold State.resetRelease
  split <;> rfl

theorem State.clockPeriod_event : s.Event s.clockPeriod := by
  unfold State.clockPeriod
  split
  · exact .stay s
  · split
    · exact .idle rfl
    · split
      · exact .idle rfl
      · exact .tick

end

/-- Every row that is no management command is one of the events. -/
theorem exec_event {c : Instr} (hc : managementCommand c = none) (h : exec c s = .next t) : s.Event t := by
  cases c <;> cases hc <;> cases h
  case acceptance r => exact s.acceptRequest_event r
  case send => exact s.sendAnswer_event
  case issue => exact s.issueSlot_event
  case commitStart => exact s.commitStart_event
  case commitMemberWrite => exact s.commitMemberWrite_event
  case fallbackIssue => exact s.issueFallback_event
  case ownershipRead => exact s.ownershipRead_event
  case ringRecordWrite => exact s.ringRecordWrite_event
  case memoryAnswer m d => exact s.memoryAnswer_event m d
  case tick => exact s.tick_event
  case deadlineExpiry n =>
    split
    · exact s.deadlineExpiry_event _
    · exact .stay s
  case timeoutExpiry n =>
    split
    · exact s.timeoutExpiry_event _
    · exact .stay s
  case deviceReset power => exact .reset power
  case resetRelease => exact .idle s.resetRelease_sameBlocks
  case frameStart => exact .idle rfl
  case frameNotTaken => exact .idle s.frameNotTaken_sameBlocks
  case incomingByte b => exact .idle (s.incomingByte_sameBlocks b)

/-! ## Management commands -/

/-- What a management command does and answers once its frame delivers it (section 9.3); an event does nothing here. -/
def managementAct : Instr → State → State × Response
  | .nop => fun t => (t, Response.okEmpty)
  | .setMode code => setModeAct code
  | .getStatus => fun t => (t, Response.okWith t.statusBytes)
  | .loadEntry p => loadEntryAct p
  | .tuneEntry p => tuneEntryAct p
  | .setFresh p => setFreshAct p
  | .retireEntry index => retireEntryAct index
  | .readEntry index => readEntryAct index
  | .preloadReference index value => preloadReferenceAct index value
  | .forgetReference index => forgetReferenceAct index
  | .clearSticky index flags => clearStickyAct index flags
  | .releaseEntry index => releaseEntryAct index
  | .configGroupEnable p => configGroupEnableAct p
  | .configGroupDisable p => configGroupDisableAct p
  | .readGroup group => readGroupAct group
  | .configRing base slots => configRingAct base slots
  | .ringOff => ringOffAct
  | .ringPoll => ringPollAct
  | .setTick length => setTickAct length
  | .readTime => fun t => (t, Response.okWith (leBytes 4 t.tickCounter.toNat))
  | .setAlertMask enables => fun t => ({ t with mask := enables }, Response.okEmpty)
  | .ackAlerts set => fun t => ({ t with causes := t.causes &&& ~~~set }, Response.okEmpty)
  | .acceptance _ | .send | .issue | .commitStart | .commitMemberWrite | .fallbackIssue | .ownershipRead
  | .ringRecordWrite | .memoryAnswer _ _ | .tick | .deadlineExpiry _ | .timeoutExpiry _ | .deviceReset _
  | .resetRelease | .frameStart | .frameNotTaken | .incomingByte _ => fun t => (t, Response.okEmpty)

/-- A management command whose enable bit fits its row is taken from its frame. -/
theorem exec_management {c : Instr} {code : Byte} {payload : List Byte}
    (hc : managementCommand c = some (code, payload)) (hbit : enableBitFits c) :
    exec c s = .next (s.takeCommand code payload (managementAct c)) := by
  cases c <;> cases hc
  case configGroupEnable p => exact congrArg Host.Outcome.next (if_pos (hbit.1 p rfl))
  case configGroupDisable p =>
    exact congrArg Host.Outcome.next (if_neg (by rw [groupEnable, hbit.2 p rfl]; decide))
  all_goals rfl

/-- A CONFIG_GROUP row with the other row's enable bit does nothing. -/
theorem exec_enableBit {c : Instr} (hbit : ¬ enableBitFits c) : exec c s = .next s := by
  cases c
  case configGroupEnable p =>
    have hp : ¬ p.flags.getLsbD 1 = true := fun h => hbit ⟨by rintro _ ⟨rfl⟩; exact h, nofun⟩
    exact congrArg Host.Outcome.next (if_neg hp)
  case configGroupDisable p =>
    have hp : p.flags.getLsbD 1 = true := by
      refine Classical.byContradiction fun h => ?_
      exact hbit ⟨nofun, by rintro _ ⟨rfl⟩; simpa using h⟩
    exact congrArg Host.Outcome.next (if_pos hp)
  all_goals exact (hbit ⟨nofun, nofun⟩).elim

/-- A delivered management command acts, and its response becomes the held one. -/
theorem exec_delivered {c : Instr} {code : Byte} {payload : List Byte}
    (hc : managementCommand c = some (code, payload)) (hbit : enableBitFits c) (h : s.delivers code payload = true) :
    exec c s = .next ((managementAct c s).1.respond (managementAct c s).2) := by
  rw [exec_management hc hbit, State.takeCommand_delivered h]; rfl

/-- A management command that no frame delivers changes nothing. -/
theorem exec_undelivered {c : Instr} {code : Byte} {payload : List Byte}
    (hc : managementCommand c = some (code, payload)) (h : s.delivers code payload = false) :
    exec c s = .next s := by
  by_cases hbit : enableBitFits c
  · rw [exec_management hc hbit, State.takeCommand_undelivered h]
  · exact exec_enableBit hbit

/-- A management command either changes nothing, or acts and answers. -/
theorem exec_management_cases {c : Instr} {code : Byte} {payload : List Byte}
    (hc : managementCommand c = some (code, payload)) :
    exec c s = .next s ∨ enableBitFits c ∧ s.delivers code payload = true ∧
      exec c s = .next ((managementAct c s).1.respond (managementAct c s).2) := by
  by_cases hbit : enableBitFits c
  · cases hd : s.delivers code payload with
    | false => exact .inl (exec_undelivered hc hd)
    | true => exact .inr ⟨hbit, rfl, exec_delivered hc hbit hd⟩
  · exact .inl (exec_enableBit hbit)

/-! ## The effects of the management commands -/

/-- What a management command can do, beside its response. -/
inductive State.Commanded (s : State) : State → Prop
  | same {t : State} (same : s.SameBlocks t) : State.Commanded s t
  | mode (m : Mode) : State.Commanded s (s.changeMode m)
  | load (p : LoadPayload) (i : Fin 48) (a : Action) (args : loadArgsOk p (loadedEntry p a) = true)
      (fits : s.loadFits i (loadedEntry p a) = true) :
      State.Commanded s (s.setEntry i ((loadedEntry p a).freshDeadline s.mode))
  | tune (p : TunePayload) (i : Fin 48) (a : Action) (occupied : (s.entry i).state ≠ .vacant)
      (ordered : limitsOrdered (tunedEntry p a (s.entry i)).low (tunedEntry p a (s.entry i)).high = true)
      (typed : rulesInType (tunedEntry p a (s.entry i)) = true) (fits : fallbackFits (tunedEntry p a (s.entry i)) = true) :
      State.Commanded s (s.setEntry i (tunedEntry p a (s.entry i)))
  | fresh (p : FreshPayload) (i : Fin 48) (args : freshArgsOk p = true) (occupied : (s.entry i).state ≠ .vacant)
      (ungrouped : (s.entry i).group = none) (fits : fallbackFits (refreshedEntry p (s.entry i)) = true) :
      State.Commanded s (s.setEntry i ((refreshedEntry p (s.entry i)).refreshed s.mode))
  | retire (i : Fin 48) (free : s.enabledGroup (s.entry i) = none) : State.Commanded s (s.setEntry i Entry.vacant)
  | preload (i : Fin 48) (v : Int) (typed : inType (s.entry i).width (s.entry i).signed v = true) :
      State.Commanded s (s.setEntry i { s.entry i with reference := some v })
  | forget (i : Fin 48) : State.Commanded s (s.setEntry i { s.entry i with reference := none })
  | clearSticky (i : Fin 48) (flags : BitVec 6) :
      State.Commanded s (s.setEntry i { s.entry i with sticky := (s.entry i).sticky &&& flags })
  | release (i : Fin 48) (latched : (s.entry i).state = .latched) :
      State.Commanded s (s.setEntry i ((s.entry i).release s.mode))
  | enable (p : GroupPayload) (g : Fin 8) (enables : groupEnable p = true) (nonzero : p.timeout ≠ 0)
      (size : 2 ≤ (s.members g).length ∧ (s.members g).length ≤ 8) :
      State.Commanded s (s.setGroup g (configuredGroup p (s.group g)))
  | disable (p : GroupPayload) (g : Fin 8) (disables : groupEnable p = false) (nonzero : p.timeout ≠ 0)
      (notWaiting : (s.group g).state ≠ .commitWait) :
      State.Commanded s ((s.endRound g).setGroup g (configuredGroup p ((s.endRound g).group g)))
  | ringStart (base : Word) (slots : Half) (stopped : s.ringState = .off ∨ s.ringState = .stopped)
      (args : ringArgsOk base slots = true) (free : s.entryMeets base.toNat (16 * slots.toNat) = false) :
      State.Commanded s (s.startRing base slots)
  | ringOff (idle : s.posting = .idle) :
      State.Commanded s { s with ringState := .off, records := [], lost := 0 }
  | ringPoll (suspended : s.ringState = .suspended) :
      State.Commanded s { s with ringState := .running, posting := .idle }

theorem State.Commanded.stay (s : State) : s.Commanded s := .same (.refl s)

theorem Entry.occupied_iff {e : Entry} : e.occupied = true ↔ e.state ≠ .vacant := by simp [Entry.occupied]

/-- A command of an occupied entry refuses, or acts on it. -/
theorem onOccupied_commanded (index : Byte) (act : Fin 48 → Entry → State × Response)
    (hact : ∀ i, (s.entry i).state ≠ .vacant → s.Commanded (act i (s.entry i)).1) :
    s.Commanded (onOccupied index s act).1 := by
  unfold onOccupied
  split
  · exact .stay s
  · split
    · next i _ hi => exact hact i (Entry.occupied_iff.mp hi)
    · exact .stay s

theorem configTarget_nonzero {p : GroupPayload} {g : Fin 8} (h : configTarget p = some g) : p.timeout ≠ 0 := by
  intro h0
  simp [configTarget, h0] at h

section
variable (s : State)

theorem setModeAct_commanded (code : Byte) : s.Commanded (setModeAct code s).1 := by
  unfold setModeAct
  split
  · next m _ => exact .mode m
  · exact .stay s

theorem loadEntryAct_commanded (p : LoadPayload) : s.Commanded (loadEntryAct p s).1 := by
  unfold loadEntryAct
  split
  · next i a _ _ =>
    dsimp only
    split
    · next hargs =>
      split
      · next hfits => exact .load p i a hargs hfits
      · exact .stay s
    · exact .stay s
  · exact .stay s

theorem tuneEntryAct_commanded (p : TunePayload) : s.Commanded (tuneEntryAct p s).1 := by
  unfold tuneEntryAct
  split
  · next i a _ _ =>
    dsimp only
    split
    · exact .stay s
    · next hordered =>
      split
      · exact .stay s
      · next hoccupied =>
        split
        · next hfits =>
          rw [Bool.and_eq_true] at hfits
          exact .tune p i a (Entry.occupied_iff.mp (by simpa using hoccupied)) (by simpa using hordered) hfits.1 hfits.2
        · exact .stay s
  · exact .stay s

theorem setFreshAct_commanded (p : FreshPayload) : s.Commanded (setFreshAct p s).1 := by
  unfold setFreshAct
  split
  · exact .stay s
  · next i _ =>
    dsimp only
    split
    · exact .stay s
    · next hargs =>
      split
      · exact .stay s
      · next hoccupied =>
        split
        · exact .stay s
        · next hgroup =>
          split
          · next hfits =>
            exact .fresh p i (by simpa using hargs) (Entry.occupied_iff.mp (by simpa using hoccupied))
              (by simpa [refreshedEntry] using hgroup) hfits
          · exact .stay s

theorem retireEntryAct_commanded (index : Byte) : s.Commanded (retireEntryAct index s).1 := by
  refine onOccupied_commanded index _ fun i _ => ?_
  split
  · exact .stay s
  · next hfree => exact .retire i (by simpa using hfree)

theorem readEntryAct_commanded (index : Byte) : s.Commanded (readEntryAct index s).1 := by
  unfold readEntryAct
  split <;> exact .stay s

theorem preloadReferenceAct_commanded (index : Byte) (v : Word) : s.Commanded (preloadReferenceAct index v s).1 := by
  refine onOccupied_commanded index _ fun i _ => ?_
  split
  · next htyped => exact .preload i _ htyped
  · exact .stay s

theorem forgetReferenceAct_commanded (index : Byte) : s.Commanded (forgetReferenceAct index s).1 :=
  onOccupied_commanded index _ fun i _ => .forget i

theorem clearStickyAct_commanded (index flags : Byte) : s.Commanded (clearStickyAct index flags s).1 := by
  unfold clearStickyAct
  split
  · exact .stay s
  · exact onOccupied_commanded index _ fun i _ => .clearSticky i _

theorem releaseEntryAct_commanded (index : Byte) : s.Commanded (releaseEntryAct index s).1 := by
  unfold releaseEntryAct
  split
  · exact .stay s
  · split
    · next i _ hlatched => exact .release i hlatched
    · exact .stay s

theorem configGroupEnableAct_commanded {p : GroupPayload} (hbit : groupEnable p = true) :
    s.Commanded (configGroupEnableAct p s).1 := by
  unfold configGroupEnableAct
  split
  · exact .stay s
  · next g hg =>
    split
    · exact .stay s
    · next hsize => exact .enable p g hbit (configTarget_nonzero hg) (by omega)

theorem configGroupDisableAct_commanded {p : GroupPayload} (hbit : groupEnable p = false) :
    s.Commanded (configGroupDisableAct p s).1 := by
  unfold configGroupDisableAct
  split
  · exact .stay s
  · next g hg =>
    split
    · exact .stay s
    · next hstate => exact .disable p g hbit (configTarget_nonzero hg) hstate

theorem readGroupAct_commanded (group : Byte) : s.Commanded (readGroupAct group s).1 := by
  unfold readGroupAct
  split <;> exact .stay s

theorem configRingAct_commanded (base : Word) (slots : Half) : s.Commanded (configRingAct base slots s).1 := by
  unfold configRingAct
  split
  · exact .stay s
  · next hstate =>
    split
    · exact .stay s
    · next hargs =>
      split
      · exact .stay s
      · next hfree =>
        refine .ringStart base slots ?_ (by simpa using hargs) (by simpa using hfree)
        cases hr : s.ringState <;> simp_all

theorem ringOffAct_commanded : s.Commanded (ringOffAct s).1 := by
  unfold ringOffAct
  split
  · exact .stay s
  · exact .stay s
  · exact .stay s
  · next hidle => exact .ringOff hidle

theorem ringPollAct_commanded : s.Commanded (ringPollAct s).1 := by
  unfold ringPollAct
  split
  · next hsuspended => exact .ringPoll hsuspended
  · exact .stay s
  · exact .stay s
  · exact .stay s

theorem setTickAct_commanded (length : Half) : s.Commanded (setTickAct length s).1 := by
  unfold setTickAct
  split
  · exact .stay s
  · exact .same rfl

/-- Every management command has one of the effects. -/
theorem managementAct_commanded {c : Instr} (hbit : enableBitFits c) : s.Commanded (managementAct c s).1 := by
  cases c
  case setMode code => exact setModeAct_commanded s code
  case loadEntry p => exact loadEntryAct_commanded s p
  case tuneEntry p => exact tuneEntryAct_commanded s p
  case setFresh p => exact setFreshAct_commanded s p
  case retireEntry index => exact retireEntryAct_commanded s index
  case readEntry index => exact readEntryAct_commanded s index
  case preloadReference index v => exact preloadReferenceAct_commanded s index v
  case forgetReference index => exact forgetReferenceAct_commanded s index
  case clearSticky index flags => exact clearStickyAct_commanded s index flags
  case releaseEntry index => exact releaseEntryAct_commanded s index
  case configGroupEnable p => exact configGroupEnableAct_commanded s (hbit.1 p rfl)
  case configGroupDisable p => exact configGroupDisableAct_commanded s (hbit.2 p rfl)
  case readGroup group => exact readGroupAct_commanded s group
  case configRing base slots => exact configRingAct_commanded s base slots
  case ringOff => exact ringOffAct_commanded s
  case ringPoll => exact ringPollAct_commanded s
  case setTick length => exact setTickAct_commanded s length
  case setAlertMask | ackAlerts => exact .same rfl
  all_goals exact .stay s

end

/-! ## Every step -/

/-- A command is an event, or a management command's effect with its response. -/
theorem exec_cases {c : Instr} (h : exec c s = .next t) : s.Event t ∨ ∃ u, s.Commanded u ∧ u.SameBlocks t := by
  cases hc : managementCommand c with
  | none => exact .inl (exec_event hc h)
  | some p =>
    obtain ⟨code, payload⟩ := p
    rcases exec_management_cases (s := s) hc with hstay | ⟨hbit, -, hact⟩
    · rw [hstay] at h; cases h; exact .inl (.stay s)
    · rw [hact] at h; cases h
      exact .inr ⟨_, managementAct_commanded s hbit, State.sameBlocks_respond _ _⟩

/-- A law that does not speak of what `SameBlocks` leaves out, and that every event and every effect of a management command
keeps, is kept by every step. -/
theorem step_keeps {P : State → Prop} (hsame : ∀ {s t : State}, s.SameBlocks t → P s → P t)
    (hevent : ∀ {s t : State}, s.Event t → P s → P t) (hcommanded : ∀ {s t : State}, s.Commanded t → P s → P t)
    (h : step s = .next t) (hs : P s) : P t := by
  unfold step at h
  split at h
  · next c rest _ =>
    have hrest : P { s with pending := rest } := hsame (s := s) rfl hs
    rcases exec_cases h with he | ⟨u, hu, hut⟩
    · exact hevent he hrest
    · exact hsame hut (hcommanded hu hrest)
  · cases h
    exact hevent s.clockPeriod_event hs

end Sys2Proof.Machine
end

section
/-! SUPPORT. Proofs for the capacities: every step keeps every queue and counter within its bounds (R84, R91, R106, R130,
R131). -/

namespace Sys2Proof.Machine

variable {s t : State}

/-! ## Frames of the writes that do not reach the queues -/

/-- Staging reaches the staged values, the groups and the commit-wait list. -/
theorem State.stage_frame (s : State) (g : Fin 8) (i : Fin 48) (v : Int) :
    s.stage g i v = { s with
      groups := (s.stage g i v).groups, staged := (s.stage g i v).staged, commitWait := (s.stage g i v).commitWait } := by
  unfold State.stage
  dsimp only
  split
  · rfl
  · split <;> rfl
  · split <;> rfl

/-- A commit start reaches the entries, the groups, the staging, the commit-wait list, the buffer and the records. -/
theorem State.beginCommit_frame (s : State) (g : Fin 8) :
    s.beginCommit g = { s with
      entries := (s.beginCommit g).entries, groups := (s.beginCommit g).groups, staged := (s.beginCommit g).staged
      commitWait := (s.beginCommit g).commitWait, commitBuffer := (s.beginCommit g).commitBuffer
      records := (s.beginCommit g).records, sequence := (s.beginCommit g).sequence, lost := (s.beginCommit g).lost
      causes := (s.beginCommit g).causes } := by
  have hreport (u : State) (n : Nat) : u.JudgedFrom (u.reportCommit g n) := by
    unfold State.reportCommit
    split
    · exact u.createRecord_judged _ _ _ _
    · exact .refl u
  unfold State.beginCommit
  dsimp only
  rw [hreport]
  rfl

/-! ## The bounds through the elementary writes -/

theorem State.Bounded.sameBlocks (h : s.SameBlocks t) (hs : s.Bounded) : t.Bounded := by
  rw [h]
  exact { hs with }

theorem Entry.Touched.counters {m : Mode} {n : Nat} {e e' : Entry} (h : Entry.Touched m n e e')
    (he : e.violations ≤ 255 ∧ e.denials ≤ 65535) : e'.violations ≤ 255 ∧ e'.denials ≤ 65535 := by
  cases h with
  | counted flags =>
    refine ⟨?_, he.2⟩
    show (if e.violations < 255 then e.violations + 1 else e.violations) ≤ 255
    split <;> omega
  | latched => exact he
  | denied =>
    refine ⟨he.1, ?_⟩
    show (if e.denials < 65535 then e.denials + 1 else e.denials) ≤ 65535
    split <;> omega
  | admitted v =>
    unfold Entry.admitValue
    split <;> exact he
  | expired => exact he

theorem State.Bounded.createRecord (hs : s.Bounded) (d : Detail) (x : Subject) (a v : Word) :
    (s.createRecord d x a v).Bounded where
  slots := by rw [s.createRecord_judged d x a v]; exact hs.slots
  log := by rw [s.createRecord_judged d x a v]; exact hs.log
  records := s.createRecord_length d x a v hs.records
  lost := s.createRecord_lost d x a v hs.lost
  drain := by rw [s.createRecord_judged d x a v]; exact hs.drain
  drained := by rw [s.createRecord_judged d x a v]; exact hs.drained
  counters := by simpa using hs.counters

theorem State.Bounded.setCause (hs : s.Bounded) (c : Byte) : (s.setCause c).Bounded :=
  hs.sameBlocks rfl

theorem State.Bounded.setEntry (hs : s.Bounded) (i : Fin 48) {e : Entry}
    (he : e.violations ≤ 255 ∧ e.denials ≤ 65535) : (s.setEntry i e).Bounded := by
  refine { hs with counters := fun j => ?_ }
  rw [State.entry_setEntry]
  split
  · exact he
  · exact hs.counters j

theorem State.Bounded.mapEntries (hs : s.Bounded) (f : Fin 48 → Entry → Entry)
    (hf : ∀ i e, (f i e).violations = e.violations ∧ (f i e).denials = e.denials) : (s.mapEntries f).Bounded := by
  refine { hs with counters := fun i => ?_ }
  rw [State.entry_mapEntries, (hf i _).1, (hf i _).2]
  exact hs.counters i

theorem State.Bounded.worked (h : s.Worked t) (hs : s.Bounded) : t.Bounded := by
  cases h with
  | entry i e touched => exact hs.setEntry i (touched.counters (hs.counters i))
  | record d x a v => exact hs.createRecord d x a v
  | cause c => exact hs.setCause c
  | staged g i v =>
    rw [s.stage_frame]
    exact { hs with }
  | restaged => exact { hs with }
  | abandoned g c =>
    have hr : (s.createRecord (.abandon (s.stagedMask g) c) (.group g) (s.lowestAddress g)
      (BitVec.ofNat 32 ((s.group g).remaining.getD 0))).Bounded := hs.createRecord _ _ _ _
    exact { hr with }

theorem State.Bounded.workedTo (h : s.WorkedTo t) (hs : s.Bounded) : t.Bounded :=
  h.keeps State.Bounded.worked hs

/-! ## The far port -/

theorem State.Bounded.issueRequest (hs : s.Bounded) (hlog : s.issueLog.length < 24) (hdrain : s.drain = 0) (o : Origin)
    (r : FpRequest) : (s.issueRequest o r).Bounded :=
  { hs with
    log := by
      show (s.issueLog ++ [({ origin := o, request := r } : LogEntry)]).length ≤ 24
      rw [List.length_append, List.length_singleton]
      omega
    drained := .inl hdrain }

theorem length_markIssued : ∀ l : List Slot, (markIssued l).length = l.length
  | [] => rfl
  | x :: xs => by
    unfold markIssued
    split
    · rfl
    · simp [length_markIssued xs]

theorem State.Bounded.issueCommitWrite (hs : s.Bounded) (hlog : s.issueLog.length < 24) (hdrain : s.drain = 0) :
    s.issueCommitWrite.Bounded := by
  unfold State.issueCommitWrite
  split
  · next w ws _ => exact State.Bounded.issueRequest (s := { s with commitBuffer := ws }) { hs with } hlog hdrain _ _
  · exact hs

theorem State.Bounded.beginCommit (hs : s.Bounded) (g : Fin 8) : (s.beginCommit g).Bounded := by
  have hmap : (s.mapEntries (s.commitReference g)).Bounded := by
    refine hs.mapEntries _ fun i e => ?_
    unfold State.commitReference
    split
    · split <;> exact ⟨rfl, rfl⟩
    · exact ⟨rfl, rfl⟩
  unfold State.beginCommit State.reportCommit
  dsimp only
  split
  · refine State.Bounded.createRecord ?_ _ _ _ _
    exact { hmap with }
  · exact { hmap with }

theorem State.Bounded.issueFallbackOf (hs : s.Bounded) (hlog : s.issueLog.length < 24) (hdrain : s.drain = 0)
    (i : Fin 48) : (s.issueFallbackOf i).Bounded := by
  unfold State.issueFallbackOf
  dsimp only
  split
  · next v _ =>
    exact State.Bounded.issueRequest (s := s.setEntry i { s.entry i with reference := some v, mark := none })
      (hs.setEntry i (hs.counters i)) hlog hdrain _ _
  · exact hs

theorem State.Bounded.memErr (hs : s.Bounded) (o : MemErrOrigin) (x : Subject) (a v : Word) :
    (s.memErr o x a v).Bounded := (hs.createRecord _ _ _ _).setCause _

theorem State.Bounded.withSlots (hs : s.Bounded) (f : Slot → Slot) :
    { s with slots := s.slots.map f }.Bounded :=
  { hs with slots := by simpa using hs.slots }

theorem State.Bounded.answerTqSlot (hs : s.Bounded) (n : Word) (r : FpRequest) (m : MemStatus) (d : Word) :
    (s.answerTqSlot n r m d).Bounded := by
  unfold State.answerTqSlot
  split
  · exact hs
  · split
    · have hw := hs.withSlots (answerSlot n .done 0)
      unfold State.offerWrite
      split
      · exact { hw with }
      · exact hw
    · exact hs.withSlots _
    · exact (hs.withSlots _).memErr _ _ _ _
    · exact (hs.withSlots _).memErr _ _ _ _

theorem State.Bounded.completePosting (hs : s.Bounded) : s.completePosting.Bounded := by
  have ht : ({ s with records := s.records.tail, head := (s.head + 1) % s.ringSlots, posting := .idle }.setCause
      causeRecord).Bounded :=
    { hs with records := by simpa using Nat.le_succ_of_le hs.records }
  unfold State.completePosting State.reportLoss
  split
  · have hr := ht.createRecord .loss .nothing 0 (BitVec.ofNat 32 s.lost)
    exact ⟨hr.slots, hr.log, hr.records, Nat.zero_le _, hr.drain, hr.drained, hr.counters⟩
  · exact ht

theorem State.Bounded.dispatch (hs : s.Bounded) (e : LogEntry) (m : MemStatus) (d : Word) :
    (s.dispatch e m d).Bounded := by
  have hring (r : RingState) (p : Posting) (c : Byte) : { s with ringState := r, posting := p, causes := c }.Bounded :=
    { hs with }
  unfold State.dispatch
  split
  · exact hs.answerTqSlot _ _ m d
  · cases m with
    | ok => exact hs
    | error => exact hs.memErr _ _ _ _
  · cases m with
    | ok => exact hs
    | error => exact hs.memErr _ _ _ _
  · cases m with
    | error => exact hring _ _ _
    | ok =>
      simp only [State.answerRingRead]
      split
      · exact hring _ _ _
      · exact hring _ _ _
  · cases m with
    | error => exact hring _ _ _
    | ok =>
      simp only [State.answerRingWrite]
      split
      · exact hring _ _ _
      · exact hring _ _ _
      · exact hring _ _ _
      · exact hs.completePosting

/-! ## Events and commands -/

theorem State.Bounded.tickCountdowns (hs : s.Bounded) : s.tickCountdowns.Bounded := by
  refine { hs with counters := fun i => ?_ }
  have hentry : s.tickCountdowns.entry i = (s.entry i).tickDown s.mode := by
    simp [State.entry, State.tickCountdowns]
  have hi := hs.counters i
  rw [hentry]
  unfold Entry.tickDown
  split <;> exact hi

theorem State.Bounded.event (h : s.Event t) (hs : s.Bounded) : t.Bounded := by
  cases h with
  | idle same => exact hs.sameBlocks same
  | accept r room j judged =>
    have hcount : s.countAcceptance.Bounded :=
      { hs with }
    have hj : j.1.Bounded := by
      rw [judged]
      exact hcount.workedTo (s.judge_target_workedTo r)
    have hslots : j.1.slots = s.slots := by
      rw [judged]
      exact (s.judge_target_workedTo r).judged.slots
    refine ⟨?_, hj.log, hj.records, hj.lost, hj.drain, hj.drained, hj.counters⟩
    rw [List.length_append, hslots]
    exact room
  | send x rest slots answered a =>
    have hlen := hs.slots
    rw [slots, List.length_cons] at hlen
    exact ⟨Nat.le_of_succ_le hlen, hs.log, hs.records, hs.lost, hs.drain, hs.drained, hs.counters⟩
  | issue x granted oldest =>
    obtain ⟨-, hlog, hdrain⟩ := State.grant_some granted
    exact State.Bounded.issueRequest (s := { s with slots := markIssued s.slots })
      { hs with slots := (length_markIssued s.slots).symm ▸ hs.slots } hlog hdrain _ _
  | commitStart g granted =>
    obtain ⟨-, hlog, hdrain⟩ := State.grant_some granted
    refine (hs.beginCommit g).issueCommitWrite ?_ ?_
    · rw [s.beginCommit_frame]; exact hlog
    · rw [s.beginCommit_frame]; exact hdrain
  | commitWrite granted =>
    obtain ⟨-, hlog, hdrain⟩ := State.grant_some granted
    exact hs.issueCommitWrite hlog hdrain
  | fallback i granted =>
    obtain ⟨-, hlog, hdrain⟩ := State.grant_some granted
    exact hs.issueFallbackOf hlog hdrain i
  | ownershipRead granted idle q =>
    obtain ⟨-, hlog, hdrain⟩ := State.grant_some granted
    exact State.Bounded.issueRequest (s := { s with posting := .reading }) { hs with } hlog hdrain _ _
  | recordWrite granted w offered q =>
    obtain ⟨-, hlog, hdrain⟩ := State.grant_some granted
    exact State.Bounded.issueRequest (s := { s with posting := .writing w }) { hs with } hlog hdrain _ _
  | answer e rest log m d =>
    have hlen := hs.log
    rw [log, List.length_cons] at hlen
    have hdrain : s.drain = 0 := hs.drained.resolve_right (by simp [log])
    exact State.Bounded.dispatch (s := { s with issueLog := rest })
      { hs with log := Nat.le_of_succ_le hlen, drained := .inl hdrain } e m d
  | discard log =>
    have hd : { s with drain := s.drain - 1 }.Bounded :=
      { hs with drain := Nat.le_trans (Nat.sub_le _ _) hs.drain, drained := .inr log }
    unfold State.discardAnswer
    dsimp only
    split
    · exact hd
    · exact hd.setCause _
  | tick => exact hs.tickCountdowns.workedTo s.tickEvent_workedTo
  | expireEntry i => exact hs.workedTo (s.expireEntry_workedTo i)
  | expireGroup g => exact hs.workedTo (s.expireGroup_workedTo g)
  | reset power =>
    have hdrain : s.drain + s.issueLog.length ≤ 24 := by
      rcases hs.drained with h | h
      · simpa [h] using hs.log
      · simpa [h] using hs.drain
    refine ⟨by simp [State.deviceReset, State.reset], by simp [State.deviceReset, State.reset],
      by simp [State.deviceReset, State.reset], by simp [State.deviceReset, State.reset], ?_, .inr rfl, fun i => ?_⟩
    · simp only [State.deviceReset]
      split <;> omega
    · simp [State.deviceReset, State.entry, State.reset, Entry.vacant]

theorem State.Bounded.changeMode (hs : s.Bounded) (m : Mode) : (s.changeMode m).Bounded := by
  have hleave : (s.mapEntries fun _ e => e.leaveBypass).Bounded := by
    refine hs.mapEntries _ fun _ e => ?_
    unfold Entry.leaveBypass
    split <;> exact ⟨rfl, rfl⟩
  have hclear (u : State) (hu : u.Bounded) : u.clearMarks.Bounded := hu.mapEntries _ fun _ _ => ⟨rfl, rfl⟩
  have habandon : s.abandonOpen.Bounded := hs.workedTo s.abandonOpen_workedTo
  have heffects : (s.modeEffects s.mode m).Bounded := by
    unfold State.modeEffects
    split
    · exact hleave
    · exact hleave
    · exact habandon
    · exact hclear _ habandon
    · exact hclear _ hs
    all_goals exact hs
  exact { heffects with }

theorem Entry.counters_freshDeadline (e : Entry) (m : Mode) :
    (e.freshDeadline m).violations = e.violations ∧ (e.freshDeadline m).denials = e.denials := by
  unfold Entry.freshDeadline
  split <;> exact ⟨rfl, rfl⟩

theorem State.Bounded.commanded (h : s.Commanded t) (hs : s.Bounded) : t.Bounded := by
  cases h with
  | same same => exact hs.sameBlocks same
  | mode m => exact hs.changeMode m
  | load p i a args fits =>
    obtain ⟨hv, hd⟩ := (loadedEntry p a).counters_freshDeadline s.mode
    exact hs.setEntry i (by rw [hv, hd]; exact ⟨Nat.zero_le _, Nat.zero_le _⟩)
  | tune p i a => exact hs.setEntry i (hs.counters i)
  | fresh p i =>
    refine hs.setEntry i ?_
    unfold Entry.refreshed
    split
    · obtain ⟨hv, hd⟩ := (refreshedEntry p (s.entry i)).counters_freshDeadline s.mode
      exact ⟨hv.symm ▸ (hs.counters i).1, hd.symm ▸ (hs.counters i).2⟩
    · exact hs.counters i
  | retire i => exact hs.setEntry i ⟨Nat.zero_le _, Nat.zero_le _⟩
  | preload i v => exact hs.setEntry i (hs.counters i)
  | forget i => exact hs.setEntry i (hs.counters i)
  | clearSticky i flags => exact hs.setEntry i (hs.counters i)
  | release i =>
    refine hs.setEntry i ?_
    unfold Entry.release
    rw [(Entry.counters_freshDeadline _ s.mode).1, (Entry.counters_freshDeadline _ s.mode).2]
    exact ⟨Nat.zero_le _, (hs.counters i).2⟩
  | enable p g => exact { hs with }
  | disable p g =>
    have he := hs.workedTo (s.endRound_workedTo g)
    exact { he with }
  | ringStart base slots => exact { hs with }
  | ringOff idle => exact { hs with records := Nat.zero_le _, lost := Nat.zero_le _ }
  | ringPoll suspended => exact { hs with }

/-- Settles O53: the bounds stand through every elementary write; a request is issued only into a place of the log while
nothing drains, and a reset moves a log of at most 24 into the drain count. -/
theorem stepKeepsCapacities : Obligations.StepKeepsCapacities := fun _ _ hs h =>
  step_keeps State.Bounded.sameBlocks State.Bounded.event State.Bounded.commanded h hs

end Sys2Proof.Machine
end

section
/-! SUPPORT. Proofs for the Transit Queue: the slots and the issue log stay in acceptance order (R75 to R78, R91). -/

namespace Sys2Proof.Machine

variable {s t : State}

/-! ## Frames of the events and commands -/

theorem State.memErr_judged (s : State) (o : MemErrOrigin) (x : Subject) (a v : Word) : s.JudgedFrom (s.memErr o x a v) :=
  (s.createRecord_judged _ _ _ _).trans (State.setCause_judged _ _)

theorem State.memErr_changes (s : State) (o : MemErrOrigin) (x : Subject) (a v : Word) :
    ∃ r q l c, s.memErr o x a v = { s with records := r, sequence := q, lost := l, causes := c } := by
  obtain ⟨r, q, l, c, h⟩ := s.createRecord_changes (.memErr o) x a v
  exact ⟨r, q, l, c ||| causeFault, by rw [State.memErr, h]; rfl⟩

/-- The next write of a commit run reaches the buffer and the far port. -/
theorem State.issueCommitWrite_frame (s : State) :
    s.issueCommitWrite = { s with
      commitBuffer := s.issueCommitWrite.commitBuffer, issueLog := s.issueCommitWrite.issueLog
      fpRequest := s.issueCommitWrite.fpRequest } := by
  unfold State.issueCommitWrite
  split <;> rfl

/-- A fallback's issue reaches its entry and the far port. -/
theorem State.issueFallbackOf_frame (s : State) (i : Fin 48) :
    s.issueFallbackOf i = { s with
      entries := (s.issueFallbackOf i).entries, issueLog := (s.issueFallbackOf i).issueLog
      fpRequest := (s.issueFallbackOf i).fpRequest } := by
  unfold State.issueFallbackOf
  dsimp only
  split <;> rfl

/-- An answer to a controller request reaches the slots, the records, the causes, and the ring state with its posting. -/
theorem State.answerTqSlot_frame (s : State) (n : Word) (r : FpRequest) (m : MemStatus) (d : Word) :
    s.answerTqSlot n r m d = { s with
      slots := (s.answerTqSlot n r m d).slots, records := (s.answerTqSlot n r m d).records
      sequence := (s.answerTqSlot n r m d).sequence, lost := (s.answerTqSlot n r m d).lost
      causes := (s.answerTqSlot n r m d).causes, ringState := (s.answerTqSlot n r m d).ringState
      posting := (s.answerTqSlot n r m d).posting } := by
  unfold State.answerTqSlot
  split
  · rfl
  · split
    · unfold State.offerWrite
      split <;> rfl
    · rfl
    · obtain ⟨_, _, _, _, h⟩ := State.memErr_changes { s with slots := s.slots.map (answerSlot n .fault 0) }
        .controllerWrite _ r.address (keepLow r.width r.data)
      rw [h]
    · obtain ⟨_, _, _, _, h⟩ := State.memErr_changes { s with slots := s.slots.map (answerSlot n .fault 0) }
        .controllerRead _ r.address 0
      rw [h]

/-- The answer to a ring write reaches the records, the causes and the ring. -/
theorem State.answerRingWrite_frame (s : State) (w : Fin 4) (m : MemStatus) :
    s.answerRingWrite w m = { s with
      records := (s.answerRingWrite w m).records, sequence := (s.answerRingWrite w m).sequence
      lost := (s.answerRingWrite w m).lost, causes := (s.answerRingWrite w m).causes
      ringState := (s.answerRingWrite w m).ringState, head := (s.answerRingWrite w m).head
      posting := (s.answerRingWrite w m).posting } := by
  unfold State.answerRingWrite
  split
  · rfl
  · split
    · rfl
    · rfl
    · rfl
    · unfold State.completePosting State.reportLoss
      split
      · obtain ⟨_, _, _, _, h⟩ := State.createRecord_changes
          ({ s with records := s.records.tail, head := (s.head + 1) % s.ringSlots, posting := .idle }.setCause causeRecord)
          .loss .nothing 0 _
        rw [h]; rfl
      · rfl

/-- An answer handed to its owner reaches the slots, the records, the causes and the ring. -/
theorem State.dispatch_frame (s : State) (e : LogEntry) (m : MemStatus) (d : Word) :
    s.dispatch e m d = { s with
      slots := (s.dispatch e m d).slots, records := (s.dispatch e m d).records
      sequence := (s.dispatch e m d).sequence, lost := (s.dispatch e m d).lost, causes := (s.dispatch e m d).causes
      ringState := (s.dispatch e m d).ringState, head := (s.dispatch e m d).head
      posting := (s.dispatch e m d).posting } := by
  unfold State.dispatch
  split
  · rw [State.answerTqSlot_frame]
  · next g i _ =>
    cases m with
    | ok => rfl
    | error =>
      obtain ⟨_, _, _, _, h⟩ := s.memErr_changes .commit (.entry i) e.request.address e.request.data
      simp only [State.answerCommit, h]
  · next i _ =>
    cases m with
    | ok => rfl
    | error =>
      obtain ⟨_, _, _, _, h⟩ := s.memErr_changes .fallback (.entry i) e.request.address e.request.data
      simp only [State.answerFallback, h]
  · cases m with
    | error => rfl
    | ok =>
      simp only [State.answerRingRead]
      split <;> rfl
  · rw [State.answerRingWrite_frame]

/-- A tick reaches the time base, the entries, the groups, the staging, the records and the causes. -/
theorem State.tickEvent_frame (s : State) :
    s.tickEvent = { s with
      tickCounter := s.tickCounter + 1, intervalLength := s.tickLength, clkCount := 0, usCount := 0
      entries := s.tickEvent.entries, groups := s.tickEvent.groups, staged := s.tickEvent.staged
      commitWait := s.tickEvent.commitWait, records := s.tickEvent.records, sequence := s.tickEvent.sequence
      lost := s.tickEvent.lost, causes := s.tickEvent.causes } :=
  s.tickEvent_judged

/-- No management command reaches the Transit Queue, the far port, the commit buffer, the drain count or the tick counter. -/
theorem State.Commanded.frame (h : s.Commanded t) :
    t.slots = s.slots ∧ t.accepted = s.accepted ∧ t.issueLog = s.issueLog ∧ t.fpRequest = s.fpRequest ∧
      t.commitBuffer = s.commitBuffer ∧ t.drain = s.drain ∧ t.tickCounter = s.tickCounter := by
  cases h with
  | same same => rw [same]; exact ⟨rfl, rfl, rfl, rfl, rfl, rfl, rfl⟩
  | mode m =>
    have hj := s.modeEffects_judged s.mode m
    exact ⟨hj.slots, hj.accepted, hj.issueLog, hj.fpRequest, hj.commitBuffer, hj.drain, hj.tickCounter⟩
  | disable p g =>
    have hj := (s.endRound_workedTo g).judged
    exact ⟨hj.slots, hj.accepted, hj.issueLog, hj.fpRequest, hj.commitBuffer, hj.drain, hj.tickCounter⟩
  | _ => exact ⟨rfl, rfl, rfl, rfl, rfl, rfl, rfl⟩

/-! ## Slots issued and answered -/

@[simp] theorem slotOf_number (n : Word) (r : NpRequest) (x : Target) (v : Verdict) : (slotOf n r x v).number = n := by
  cases v <;> rfl

/-- A new slot waits for no memory (R78). -/
theorem slotOf_state (n : Word) (r : NpRequest) (x : Target) (v : Verdict) : (slotOf n r x v).state ≠ .waitMemory := by
  cases v <;> simp [slotOf]

/-- The oldest slot to be issued stands behind slots that are not. -/
theorem State.controllerCandidate_some {x : Slot} (h : s.controllerCandidate = some x) :
    ∃ pre post, s.slots = pre ++ x :: post ∧ (∀ y ∈ pre, y.state ≠ .waitIssue) ∧ x.state = .waitIssue := by
  obtain ⟨hx, pre, post, hslots, hpre⟩ := List.find?_eq_some_iff_append.mp h
  exact ⟨pre, post, hslots, fun y hy => by simpa using hpre y hy, by simpa using hx⟩

theorem State.controllerCandidate_append {x : Slot} {pre post : List Slot} (hslots : s.slots = pre ++ x :: post)
    (hpre : ∀ y ∈ pre, y.state ≠ .waitIssue) (hx : x.state = .waitIssue) : s.controllerCandidate = some x :=
  List.find?_eq_some_iff_append.mpr
    ⟨by simpa using hx, pre, post, hslots, fun y hy => by simpa using hpre y hy⟩

theorem markIssued_append {x : Slot} {pre post : List Slot} (hpre : ∀ y ∈ pre, y.state ≠ .waitIssue)
    (hx : x.state = .waitIssue) :
    markIssued (pre ++ x :: post) = pre ++ { x with state := .waitMemory } :: post := by
  induction pre with
  | nil => simp [markIssued, hx]
  | cons y pre ih =>
    simp [markIssued, hpre y (by simp), ih fun z hz => hpre z (by simp [hz])]

/-- An answer goes to the one slot that has its number and waits for memory. -/
theorem map_answerSlot_append {n : Word} {a : AnswerStatus} {d : Word} {x : Slot} {pre post : List Slot}
    (hpre : ∀ y ∈ pre, y.number ≠ n ∨ y.state ≠ .waitMemory) (hpost : ∀ y ∈ post, y.number ≠ n ∨ y.state ≠ .waitMemory)
    (hn : x.number = n) (hx : x.state = .waitMemory) :
    (pre ++ x :: post).map (answerSlot n a d) = pre ++ { x with state := .answered a d } :: post := by
  have hkeep (l : List Slot) (hl : ∀ y ∈ l, y.number ≠ n ∨ y.state ≠ .waitMemory) : l.map (answerSlot n a d) = l := by
    refine (List.map_congr_left fun y hy => if_neg ?_).trans (List.map_id l)
    rintro ⟨hnumber, hstate⟩
    exact (hl y hy).elim (fun h => h hnumber) fun h => h hstate
  rw [List.map_append, List.map_cons, hkeep pre hpre, hkeep post hpost, answerSlot, if_pos ⟨hn, hx⟩]

/-- Where a slot with the number waits for memory, the answer answers every such slot and no other. -/
theorem State.answerTqSlot_slots {n : Word} {x : Slot} (hmem : x ∈ s.slots) (hn : x.number = n)
    (hx : x.state = .waitMemory) (r : FpRequest) (m : MemStatus) (d : Word) :
    ∃ a v, (s.answerTqSlot n r m d).slots = s.slots.map (answerSlot n a v) := by
  unfold State.answerTqSlot
  split
  next hnone => exact absurd (List.find?_eq_none.mp hnone x hmem) (by simp [hn, hx])
  next y _ =>
    split
    · refine ⟨.done, 0, ?_⟩
      unfold State.offerWrite
      split <;> rfl
    · exact ⟨_, _, rfl⟩
    · exact ⟨.fault, 0, by rw [(State.memErr_judged _ _ _ _ _).slots]⟩
    · exact ⟨.fault, 0, by rw [(State.memErr_judged _ _ _ _ _).slots]⟩

/-! ## The transit law -/

/-- The law speaks of the slots, the number of acceptances, and the log's acceptance numbers. -/
theorem State.TransitLawful.congr (hs : s.TransitLawful) (hslots : t.slots = s.slots) (hacc : t.accepted = s.accepted)
    (hlog : t.issueLog.filterMap tqNumber = s.issueLog.filterMap tqNumber) : t.TransitLawful where
  fits := by rw [hslots, hacc]; exact hs.fits
  numbers := by rw [hslots, hacc]; exact hs.numbers
  order := by rw [hslots]; exact hs.order
  logged := by rw [hslots, hlog]; exact hs.logged

theorem State.TransitLawful.sameBlocks (h : s.SameBlocks t) (hs : s.TransitLawful) : t.TransitLawful := by
  rw [h]; exact { hs with }

theorem State.TransitLawful.judged (h : s.JudgedFrom t) (hs : s.TransitLawful) : t.TransitLawful :=
  hs.congr h.slots h.accepted (by rw [h.issueLog])

theorem State.TransitLawful.commanded (h : s.Commanded t) (hs : s.TransitLawful) : t.TransitLawful := by
  obtain ⟨hslots, hacc, hlog, -⟩ := h.frame
  exact hs.congr hslots hacc (by rw [hlog])

/-- Numbers of at most 16 acceptances in a row are distinct. -/
theorem State.TransitLawful.nodup (hs : s.TransitLawful) : (s.slots.map Slot.number).Nodup := by
  have hlen := hs.fits.2
  rw [hs.numbers]
  refine List.pairwise_map.mpr (List.nodup_range.imp_of_mem fun {k l} hk hl hne hkl => hne ?_)
  rw [List.mem_range] at hk hl
  have := congrArg BitVec.toNat hkl
  simp only [BitVec.toNat_ofNat] at this
  omega

/-- A slot with the count as it stood joins the tail. -/
theorem State.TransitLawful.accepted (hs : s.TransitLawful) (hroom : s.slots.length < 16) {x : Slot}
    (hn : x.number = s.acceptCount) (hx : x.state ≠ .waitMemory) (hslots : t.slots = s.slots ++ [x])
    (hacc : t.accepted = s.accepted + 1) (hlog : t.issueLog = s.issueLog) : t.TransitLawful where
  fits := by
    have := hs.fits.1
    simp only [hslots, hacc, List.length_append, List.length_singleton]
    omega
  numbers := by
    have hfits := hs.fits.1
    have hlast : s.accepted - s.slots.length + s.slots.length = s.accepted := by omega
    rw [hslots, hacc, List.map_append, hs.numbers, List.length_append, List.length_singleton, List.range_succ,
      List.map_append, Nat.add_sub_add_right]
    simp [hn, hlast, State.acceptCount]
  order := by
    rw [hslots, List.pairwise_append]
    exact ⟨hs.order, List.pairwise_singleton _ _, fun y _ z hz _ => by rw [List.mem_singleton.mp hz]; exact hx⟩
  logged := by rw [hlog, hslots, List.filter_append, hs.logged]; simp [hx]

/-- The oldest slot, waiting for no memory, leaves. -/
theorem State.TransitLawful.sent (hs : s.TransitLawful) {x : Slot} {rest : List Slot} (hslots : s.slots = x :: rest)
    (hx : x.state ≠ .waitMemory) (a : NpAnswer) : { s with slots := rest, npAnswer := some a }.TransitLawful := by
  obtain ⟨hfits, hnumbers, horder, hlogged⟩ := hs
  simp only [hslots, List.length_cons, List.map_cons] at hfits hnumbers
  rw [hslots, List.pairwise_cons] at horder
  refine ⟨by show rest.length ≤ s.accepted ∧ rest.length ≤ 16; omega, ?_, horder.2, ?_⟩
  · rw [List.range_succ_eq_map, List.map_cons, List.map_map] at hnumbers
    refine (List.cons.inj hnumbers).2.trans (List.map_congr_left fun k _ => congrArg (BitVec.ofNat 32) ?_)
    show s.accepted - (rest.length + 1) + (k + 1) = s.accepted - rest.length + k
    omega
  · simpa [hslots, hx] using hlogged

/-- The oldest WAIT-ISSUE slot is issued: what waits for memory stands before it, and nothing behind it does. -/
theorem State.TransitLawful.issued (hs : s.TransitLawful) {x : Slot} (hx : s.controllerCandidate = some x)
    (q : FpRequest) :
    ({ s with slots := markIssued s.slots }.issueRequest (.tqSlot x.number) q).TransitLawful := by
  obtain ⟨pre, post, hslots, hpre, hstate⟩ := State.controllerCandidate_some hx
  have horder := hs.order
  rw [hslots, List.pairwise_append, List.pairwise_cons] at horder
  obtain ⟨hpp, ⟨hxpost, hpost⟩, -⟩ := horder
  have hbehind : post.filter (fun y => decide (y.state = .waitMemory)) = [] :=
    List.filter_eq_nil_iff.mpr fun y hy => by simpa using hxpost y hy hstate
  have hmark := markIssued_append (post := post) hpre hstate
  have hlogged := hs.logged
  have hfits := hs.fits
  have hnumbers := hs.numbers
  simp only [hslots, List.length_append, List.length_cons, List.map_append, List.map_cons] at hfits hnumbers
  refine ⟨?_, ?_, ?_, ?_⟩
  · simpa [hslots, hmark] using hfits
  · simpa [hslots, hmark] using hnumbers
  · simp only [State.issueRequest_slots, hslots, hmark, List.pairwise_append, List.pairwise_cons]
    exact ⟨hpp, ⟨fun y _ h => SlotState.noConfusion h, hpost⟩, fun y hy z _ h => absurd h (hpre y hy)⟩
  · simp only [State.issueRequest_issueLog, State.issueRequest_slots, List.filterMap_append, hlogged, hslots, hmark]
    simp [hstate, hbehind, tqNumber]

/-- The answer to the oldest logged controller request answers the oldest slot that waits for memory. -/
theorem State.TransitLawful.answered (hs : s.TransitLawful) {n : Word} {q : FpRequest} {rest : List LogEntry}
    (hlog : s.issueLog = { origin := .tqSlot n, request := q } :: rest) (m : MemStatus) (d : Word) :
    ({ s with issueLog := rest }.answerTqSlot n q m d).TransitLawful := by
  have hlogged := hs.logged
  rw [hlog, List.filterMap_cons] at hlogged
  simp only [tqNumber] at hlogged
  obtain ⟨x, rest', hwaiting, hxn, hrest⟩ := List.map_eq_cons_iff.mp hlogged.symm
  obtain ⟨pre, post, hslots, hpre, hx, hpost⟩ := List.filter_eq_cons_iff.mp hwaiting
  rw [decide_eq_true_eq] at hx
  have hpre' : ∀ y ∈ pre, y.state ≠ .waitMemory := fun y hy => by simpa using hpre y hy
  have hnodup := hs.nodup
  rw [hslots, List.map_append, List.map_cons, List.nodup_append, List.nodup_cons] at hnodup
  have hother : ∀ y ∈ post, y.number ≠ n := fun y hy h =>
    hnodup.2.1.1 (List.mem_map.mpr ⟨y, hy, h.trans hxn.symm⟩)
  obtain ⟨a, v, hanswered⟩ := State.answerTqSlot_slots (s := { s with issueLog := rest }) (n := n) (x := x)
    (by simp [hslots]) hxn hx q m d
  have hnew : ({ s with issueLog := rest }.answerTqSlot n q m d).slots =
      pre ++ { x with state := .answered a v } :: post := by
    rw [hanswered, show ({ s with issueLog := rest } : State).slots = pre ++ x :: post from hslots]
    exact map_answerSlot_append (fun y hy => .inr (hpre' y hy)) (fun y hy => .inl (hother y hy)) hxn hx
  have hframe := State.answerTqSlot_frame { s with issueLog := rest } n q m d
  have hacc : ({ s with issueLog := rest }.answerTqSlot n q m d).accepted = s.accepted := by rw [hframe]
  have hlog' : ({ s with issueLog := rest }.answerTqSlot n q m d).issueLog = rest := by rw [hframe]
  have hfits := hs.fits
  have hnumbers := hs.numbers
  have horder := hs.order
  simp only [hslots, List.length_append, List.length_cons, List.map_append, List.map_cons] at hfits hnumbers
  rw [hslots, List.pairwise_append, List.pairwise_cons] at horder
  obtain ⟨hpp, ⟨hxpost, hpp'⟩, hcross⟩ := horder
  refine ⟨?_, ?_, ?_, ?_⟩
  · rw [hnew, hacc]; simpa using hfits
  · rw [hnew, hacc]; simpa using hnumbers
  · rw [hnew, List.pairwise_append, List.pairwise_cons]
    refine ⟨hpp, ⟨fun y _ h => SlotState.noConfusion h, hpp'⟩, fun y hy z hz h => ?_⟩
    rcases List.mem_cons.mp hz with rfl | hz
    · simp
    · exact hcross y hy z (List.mem_cons_of_mem _ hz) h
  · rw [hlog', hnew, ← hrest, ← hpost, List.filter_append, List.filter_eq_nil_iff.mpr hpre]
    simp

theorem State.TransitLawful.event (h : s.Event t) (hs : s.TransitLawful) : t.TransitLawful := by
  cases h with
  | idle same => exact hs.sameBlocks same
  | accept r room j judged =>
    have hj := (s.judge_target_workedTo r).judged
    rw [← judged] at hj
    refine hs.accepted room (slotOf_number _ r (s.target r) j.2) (slotOf_state _ _ _ _) ?_ hj.accepted hj.issueLog
    exact congrArg (· ++ [slotOf s.acceptCount r (s.target r) j.2]) hj.slots
  | send x rest slots answered a => exact hs.sent slots answered a
  | issue x granted oldest => exact hs.issued oldest _
  | commitStart g granted =>
    have hframe := (s.beginCommit g).issueCommitWrite_frame
    have hbegin := s.beginCommit_frame g
    refine hs.congr (by rw [hframe, hbegin]) (by rw [hframe, hbegin]) ?_
    have hlog : (s.beginCommit g).issueLog = s.issueLog := by rw [hbegin]
    unfold State.issueCommitWrite
    split
    · simp [hlog, tqNumber]
    · rw [hlog]
  | commitWrite granted =>
    have hframe := s.issueCommitWrite_frame
    refine hs.congr (by rw [hframe]) (by rw [hframe]) ?_
    unfold State.issueCommitWrite
    split
    · simp [tqNumber]
    · rfl
  | fallback i granted =>
    have hframe := s.issueFallbackOf_frame i
    refine hs.congr (by rw [hframe]) (by rw [hframe]) ?_
    unfold State.issueFallbackOf
    dsimp only
    split
    · simp [tqNumber]
    · rfl
  | ownershipRead granted idle q => exact hs.congr rfl rfl (by simp [tqNumber])
  | recordWrite granted w offered q => exact hs.congr rfl rfl (by simp [tqNumber])
  | answer e rest log m d =>
    obtain ⟨o, q⟩ := e
    have hframe := State.dispatch_frame { s with issueLog := rest } ⟨o, q⟩ m d
    have hacc : ({ s with issueLog := rest }.dispatch ⟨o, q⟩ m d).accepted = s.accepted := by rw [hframe]
    have hlog : ({ s with issueLog := rest }.dispatch ⟨o, q⟩ m d).issueLog = rest := by rw [hframe]
    have hown (ho : tqNumber ⟨o, q⟩ = none) (hslots : ({ s with issueLog := rest }.dispatch ⟨o, q⟩ m d).slots = s.slots) :
        ({ s with issueLog := rest }.dispatch ⟨o, q⟩ m d).TransitLawful :=
      hs.congr hslots hacc (by rw [hlog, log]; simp [ho])
    cases o with
    | tqSlot n => exact hs.answered log m d
    | commitMember g i =>
      refine hown rfl ?_
      cases m with
      | ok => rfl
      | error => exact (State.memErr_judged _ _ _ _ _).slots
    | fallback i =>
      refine hown rfl ?_
      cases m with
      | ok => rfl
      | error => exact (State.memErr_judged _ _ _ _ _).slots
    | ringRead k =>
      refine hown rfl ?_
      cases m with
      | error => rfl
      | ok =>
        simp only [State.dispatch, State.answerRingRead]
        split <;> rfl
    | ringWrite k w =>
      refine hown rfl ?_
      simp only [State.dispatch]
      rw [State.answerRingWrite_frame]
  | discard log =>
    refine hs.congr ?_ ?_ ?_ <;> simp only [State.discardAnswer] <;> split <;> rfl
  | tick => exact hs.congr (by rw [s.tickEvent_frame]) (by rw [s.tickEvent_frame]) (by rw [s.tickEvent_frame])
  | expireEntry i => exact hs.judged (s.expireEntry_judged i)
  | expireGroup g => exact hs.judged (s.expireGroup_judged g)
  | reset power => exact ⟨⟨Nat.zero_le _, Nat.zero_le _⟩, rfl, .nil, rfl⟩

/-- Settles O59: an acceptance appends the youngest number, SEND takes the oldest off, ISSUE appends its number to the log and
marks the slot behind those that wait for memory, and an answer matches the log's oldest entry with the oldest of these. -/
theorem stepKeepsTransitLaw : Obligations.StepKeepsTransitLaw := fun _ _ hs h =>
  step_keeps State.TransitLawful.sameBlocks State.TransitLawful.event State.TransitLawful.commanded h hs

end Sys2Proof.Machine
end

section
/-! SUPPORT. The far arbiter's choice: what each grant says of the candidates (R94 to R97). -/

namespace Sys2Proof.Machine

variable {s t : State}

/-! ## The first by order mark (R97) -/

theorem firstByMark_eq_none : ∀ {l : List (Nat × Grant)}, firstByMark l = none ↔ l = []
  | [] => by simp [firstByMark]
  | c :: cs => by
    simp only [firstByMark]
    split
    · simp
    · split <;> simp

/-- The choice has a smaller mark than all before it and none greater than those behind it. -/
theorem firstByMark_some {c : Nat × Grant} : ∀ {l : List (Nat × Grant)}, firstByMark l = some c →
    ∃ pre post, l = pre ++ c :: post ∧ (∀ d ∈ pre, c.1 < d.1) ∧ ∀ d ∈ post, c.1 ≤ d.1
  | [], h => by simp [firstByMark] at h
  | a :: as, h => by
    simp only [firstByMark] at h
    split at h
    · next hnone =>
      cases h
      exact ⟨[], [], by simp [firstByMark_eq_none.mp hnone], by simp, by simp⟩
    · next d hd =>
      obtain ⟨pre, post, has, hpre, hpost⟩ := firstByMark_some hd
      split at h
      · next hle =>
        cases h
        refine ⟨[], as, rfl, by simp, fun x hx => ?_⟩
        rw [has, List.mem_append, List.mem_cons] at hx
        rcases hx with hx | rfl | hx
        · have := hpre x hx; omega
        · exact hle
        · have := hpost x hx; omega
      · next hgt =>
        cases h
        refine ⟨a :: pre, post, by rw [has, List.cons_append], fun x hx => ?_, hpost⟩
        rcases List.mem_cons.mp hx with rfl | hx
        · omega
        · exact hpre x hx

/-! ## The internal candidates (R94) -/

theorem map_pair_eq_some {x : Option Nat} {r k : Grant} {m : Nat} :
    x.map (fun n => (n, r)) = some (m, k) ↔ x = some m ∧ k = r := by
  rw [Option.map_eq_some_iff]
  constructor
  · rintro ⟨n, hn, ⟨⟩⟩
    exact ⟨hn, rfl⟩
  · rintro ⟨rfl, rfl⟩
    exact ⟨m, rfl, rfl⟩

theorem State.mem_internalCandidates {c : Nat × Grant} : c ∈ s.internalCandidates ↔
    (∃ i, (s.entry i).mark = some c.1 ∧ c.2 = .fallback i) ∨
      ∃ g, s.commitWait.head? = some g ∧ (s.group g).mark = some c.1 ∧ c.2 = .commitStart g := by
  obtain ⟨m, k⟩ := c
  unfold State.internalCandidates
  rw [List.mem_append, List.mem_filterMap]
  refine or_congr ?_ ?_
  · refine exists_congr fun i => ?_
    rw [map_pair_eq_some]
    exact and_iff_right (List.mem_finRange i)
  · cases s.commitWait with
    | nil => exact ⟨fun h => (List.not_mem_nil h).elim, fun ⟨g, hg, _⟩ => nomatch hg⟩
    | cons g gs =>
      dsimp only
      rw [Option.mem_toList, map_pair_eq_some]
      constructor
      · exact fun h => ⟨g, rfl, h⟩
      · rintro ⟨h, ⟨⟩, hmark⟩
        exact hmark

/-- The pending fallbacks stand in index order, and the commit behind them all. -/
theorem State.pairwise_internalCandidates (s : State) :
    s.internalCandidates.Pairwise fun c d => ∃ i, c.2 = .fallback i ∧ ∀ j, d.2 = .fallback j → i < j := by
  unfold State.internalCandidates
  rw [List.pairwise_append]
  refine ⟨?_, ?_, ?_⟩
  · rw [List.pairwise_filterMap]
    refine (List.pairwise_lt_finRange 48).imp fun {i j} hij c hc d hd => ?_
    rw [Option.map_eq_some_iff] at hc hd
    obtain ⟨m, -, rfl⟩ := hc
    obtain ⟨n, -, rfl⟩ := hd
    exact ⟨i, rfl, fun k hk => by cases hk; exact hij⟩
  · cases s.commitWait with
    | nil => simp
    | cons g gs => cases (s.group g).mark <;> simp
  · intro c hc d hd
    obtain ⟨i, -, hi⟩ := List.mem_filterMap.mp hc
    obtain ⟨m, -, rfl⟩ := Option.map_eq_some_iff.mp hi
    refine ⟨i, rfl, fun j hj => ?_⟩
    cases hw : s.commitWait with
    | nil => simp [hw] at hd
    | cons g gs =>
      rw [hw] at hd
      obtain ⟨n, -, rfl⟩ := Option.map_eq_some_iff.mp (Option.mem_toList.mp hd)
      cases hj

/-! ## The choice with no run in progress (R97) -/

/-- The internal candidates that are placed before the controller's. -/
def State.placedCandidates (s : State) : List (Nat × Grant) :=
  s.internalCandidates.filter fun c => s.placedBefore c.1

theorem State.mem_placedCandidates {c : Nat × Grant} :
    c ∈ s.placedCandidates ↔ c ∈ s.internalCandidates ∧ s.placedBefore c.1 = true := List.mem_filter

/-- What the open choice says of the candidates: an internal one is the first of those placed before the controller's; the
controller's and the posting's are chosen only when none is placed before. -/
theorem State.openChoice_cases (s : State) :
    (∃ c, firstByMark s.placedCandidates = some c ∧ s.openChoice = some c.2) ∨
      s.placedCandidates = [] ∧ (s.controllerCandidate.isSome = true ∧ s.openChoice = some .controller ∨
        s.controllerCandidate = none ∧ (s.postingOffered = true ∧ s.openChoice = some .posting ∨
          s.postingOffered = false ∧ s.openChoice = none)) := by
  unfold State.openChoice
  cases hf : firstByMark s.placedCandidates with
  | some c =>
    refine .inl ⟨c, rfl, ?_⟩
    unfold State.placedCandidates at hf
    rw [hf]
  | none =>
    refine .inr ⟨firstByMark_eq_none.mp hf, ?_⟩
    unfold State.placedCandidates at hf
    rw [hf]
    cases hc : s.controllerCandidate with
    | some x => simp
    | none => cases s.postingOffered <;> simp

theorem State.grant_eq (h : s.grantOpen = true) (hb : s.commitBuffer = []) : s.grant = s.openChoice := by
  rw [State.grant, if_pos h, hb]

theorem State.grant_run_eq (h : s.grantOpen = true) (hb : s.commitBuffer ≠ []) : s.grant = some .commitWrite := by
  rw [State.grant, if_pos h]
  cases hc : s.commitBuffer with
  | nil => exact absurd hc hb
  | cons w ws => rfl

theorem State.grantOpen_iff : s.grantOpen = true ↔ s.inReset = false ∧ s.issueLog.length < 24 ∧ s.drain = 0 := by
  simp only [State.grantOpen, Bool.and_eq_true, Bool.not_eq_true', decide_eq_true_eq, and_assoc]
  exact Iff.rfl

/-- A grant is made in the open: to the run in progress, or by the open choice. -/
theorem State.grant_some_cases {k : Grant} (h : s.grant = some k) :
    s.grantOpen = true ∧ (s.commitBuffer ≠ [] ∧ k = .commitWrite ∨ s.commitBuffer = [] ∧ s.openChoice = some k) := by
  have hopen : s.grantOpen = true := by
    refine Classical.byContradiction fun hc => ?_
    simp [State.grant, hc] at h
  refine ⟨hopen, ?_⟩
  by_cases hb : s.commitBuffer = []
  · exact .inr ⟨hb, by rw [← State.grant_eq hopen hb]; exact h⟩
  · exact .inl ⟨hb, State.grant_run h hb⟩

/-- An internal candidate that is chosen is the first of those placed before the controller's. -/
theorem State.openChoice_internal {k : Grant} (h : s.openChoice = some k) (hc : k ≠ .controller) (hp : k ≠ .posting) :
    ∃ m, firstByMark s.placedCandidates = some (m, k) := by
  rcases s.openChoice_cases with ⟨c, hf, hk⟩ | ⟨-, ⟨-, hk⟩ | ⟨-, ⟨-, hk⟩ | ⟨-, hk⟩⟩⟩
  · rw [h] at hk; cases hk; exact ⟨c.1, hf⟩
  · rw [h] at hk; cases hk; exact absurd rfl hc
  · rw [h] at hk; cases hk; exact absurd rfl hp
  · rw [h] at hk; cases hk

/-- No internal candidate stands for the controller's grant, the posting's or a run's next write. -/
theorem State.firstByMark_placedCandidates_kind {c : Nat × Grant} (h : firstByMark s.placedCandidates = some c) :
    c.2 ≠ .controller ∧ c.2 ≠ .posting ∧ c.2 ≠ .commitWrite := by
  obtain ⟨pre, post, hl, -⟩ := firstByMark_some h
  have hmem : c ∈ s.placedCandidates := by simp [hl]
  rcases State.mem_internalCandidates.mp (State.mem_placedCandidates.mp hmem).1 with ⟨i, -, hk⟩ | ⟨g, -, -, hk⟩ <;>
    simp [hk]

theorem State.openChoice_controller (h : s.openChoice = some .controller) :
    s.placedCandidates = [] ∧ s.controllerCandidate.isSome = true := by
  rcases s.openChoice_cases with ⟨c, hf, hk⟩ | ⟨hnone, ⟨hc, -⟩ | ⟨-, ⟨-, hk⟩ | ⟨-, hk⟩⟩⟩
  · rw [h] at hk
    exact absurd (Option.some.inj hk).symm (State.firstByMark_placedCandidates_kind hf).1
  · exact ⟨hnone, hc⟩
  · rw [h] at hk; cases hk
  · rw [h] at hk; cases hk

theorem State.openChoice_posting (h : s.openChoice = some .posting) :
    s.placedCandidates = [] ∧ s.controllerCandidate = none ∧ s.postingOffered = true := by
  rcases s.openChoice_cases with ⟨c, hf, hk⟩ | ⟨hnone, ⟨-, hk⟩ | ⟨hc, ⟨hp, -⟩ | ⟨-, hk⟩⟩⟩
  · rw [h] at hk
    exact absurd (Option.some.inj hk).symm (State.firstByMark_placedCandidates_kind hf).2.1
  · rw [h] at hk; cases hk
  · exact ⟨hnone, hc, hp⟩
  · rw [h] at hk; cases hk

theorem State.openChoice_ne_commitWrite : s.openChoice ≠ some .commitWrite := by
  intro h
  rcases s.openChoice_cases with ⟨c, hf, hk⟩ | ⟨-, ⟨-, hk⟩ | ⟨-, ⟨-, hk⟩ | ⟨-, hk⟩⟩⟩
  · rw [h] at hk
    exact (State.firstByMark_placedCandidates_kind hf).2.2 (Option.some.inj hk).symm
  · rw [h] at hk; cases hk
  · rw [h] at hk; cases hk
  · rw [h] at hk; cases hk

theorem State.openChoice_none (h : s.openChoice = none) :
    s.placedCandidates = [] ∧ s.controllerCandidate = none ∧ s.postingOffered = false := by
  rcases s.openChoice_cases with ⟨c, -, hk⟩ | ⟨hnone, ⟨-, hk⟩ | ⟨hc, ⟨-, hk⟩ | ⟨hp, -⟩⟩⟩
  · rw [h] at hk; cases hk
  · rw [h] at hk; cases hk
  · rw [h] at hk; cases hk
  · exact ⟨hnone, hc, hp⟩

/-- With no slot to be issued every internal candidate is placed first, so that none placed means none standing (R95). -/
theorem State.internalCandidates_eq_nil (hc : s.controllerCandidate = none) (hp : s.placedCandidates = []) :
    s.internalCandidates = [] := by
  rw [List.eq_nil_iff_forall_not_mem]
  intro c hmem
  have : c ∈ s.placedCandidates := State.mem_placedCandidates.mpr ⟨hmem, by simp [State.placedBefore, hc]⟩
  simp [hp] at this

theorem State.controllerCandidate_none : s.controllerCandidate = none ↔ ∀ x ∈ s.slots, x.state ≠ .waitIssue := by
  simp [State.controllerCandidate]

theorem State.postingOffered_iff : s.postingOffered = true ↔
    s.ringState = .running ∧ s.records ≠ [] ∧ (s.posting = .idle ∨ ∃ w, s.posting = .offered w) := by
  unfold State.postingOffered
  cases s.posting <;> simp

end Sys2Proof.Machine
end

section
/-! SUPPORT. Proofs for the postings: at most one request of the ring is outstanding, the one that the posting awaits (R100,
R132, R134). -/

namespace Sys2Proof.Machine

variable {s t : State}

/-! ## Records that wait -/

theorem State.createRecord_records_ne (hs : s.records ≠ []) (d : Detail) (x : Subject) (a v : Word) :
    (s.createRecord d x a v).records ≠ [] := by
  by_cases ho : s.ringState = .off
  · rwa [State.createRecord_off ho]
  · by_cases hr : s.records.length < Config.recordPlaces
    · rw [State.createRecord_joins ho hr]; simp
    · rwa [State.createRecord_discards ho (Nat.le_of_not_lt hr)]

/-- The law speaks of the ring, its head, the log's ring origins, and whether records wait. -/
theorem State.PostingLawful.congr (hs : s.PostingLawful) (hring : t.ringState = s.ringState)
    (hposting : t.posting = s.posting) (hhead : t.head = s.head) (hslots : t.ringSlots = s.ringSlots)
    (hlog : ringOrigins t.issueLog = ringOrigins s.issueLog) (hwait : s.records ≠ [] → t.records ≠ [])
    (hoff : s.ringState = .off → t.records = s.records) : t.PostingLawful where
  running := by rw [hring, hposting]; exact hs.running
  outstanding := by rw [hlog, State.postingOrigins, hposting, hhead]; exact hs.outstanding
  waiting := by rw [hring, hposting]; exact fun h => hwait (hs.waiting h)
  off := by rw [hring]; exact fun h => (hoff h).trans (hs.off h)
  head := by rw [hring, hhead, hslots]; exact hs.head

theorem State.PostingLawful.sameBlocks (h : s.SameBlocks t) (hs : s.PostingLawful) : t.PostingLawful := by
  rw [h]; exact { hs with }

theorem State.PostingLawful.createRecord (hs : s.PostingLawful) (d : Detail) (x : Subject) (a v : Word) :
    (s.createRecord d x a v).PostingLawful := by
  have hj := s.createRecord_judged d x a v
  exact hs.congr hj.ringState hj.posting hj.head hj.ringSlots (by rw [hj.issueLog])
    (fun h => State.createRecord_records_ne h d x a v) fun h => by rw [State.createRecord_off h]

theorem State.PostingLawful.worked (h : s.Worked t) (hs : s.PostingLawful) : t.PostingLawful := by
  cases h with
  | entry i e _ => exact { hs with }
  | record d x a v => exact hs.createRecord d x a v
  | cause c => exact { hs with }
  | staged g i v => rw [s.stage_frame]; exact { hs with }
  | restaged i v => exact { hs with }
  | abandoned g c =>
    have hr := hs.createRecord (.abandon (s.stagedMask g) c) (.group g) (s.lowestAddress g)
      (BitVec.ofNat 32 ((s.group g).remaining.getD 0))
    exact { hr with }

theorem State.PostingLawful.workedTo (h : s.WorkedTo t) (hs : s.PostingLawful) : t.PostingLawful :=
  h.keeps State.PostingLawful.worked hs

theorem State.PostingLawful.memErr (hs : s.PostingLawful) (o : MemErrOrigin) (x : Subject) (a v : Word) :
    (s.memErr o x a v).PostingLawful :=
  State.PostingLawful.workedTo (.tail (.single (.record s _ x a v)) (.cause _ _)) hs

/-! ## The log's ring origins -/

/-- The origin is a ring access. -/
def Origin.ofRing : Origin → Bool
  | .ringRead _ => true
  | .ringWrite _ _ => true
  | .tqSlot _ => false
  | .commitMember _ _ => false
  | .fallback _ => false

theorem ringOrigins_eq (log : List LogEntry) : ringOrigins log = (log.map LogEntry.origin).filter Origin.ofRing := by
  unfold ringOrigins
  exact List.filter_congr fun o _ => by cases o <;> rfl

theorem ringOrigins_append_of_not (log : List LogEntry) {o : Origin} (ho : o.ofRing = false) (q : FpRequest) :
    ringOrigins (log ++ [{ origin := o, request := q }]) = ringOrigins log := by
  simp [ringOrigins_eq, ho]

theorem ringOrigins_append (log : List LogEntry) {o : Origin} (ho : o.ofRing = true) (q : FpRequest) :
    ringOrigins (log ++ [{ origin := o, request := q }]) = ringOrigins log ++ [o] := by
  simp [ringOrigins_eq, ho]

theorem ringOrigins_cons_of_not {e : LogEntry} (he : e.origin.ofRing = false) (rest : List LogEntry) :
    ringOrigins (e :: rest) = ringOrigins rest := by
  simp [ringOrigins_eq, he]

theorem ringOrigins_cons {e : LogEntry} (he : e.origin.ofRing = true) (rest : List LogEntry) :
    ringOrigins (e :: rest) = e.origin :: ringOrigins rest := by
  simp [ringOrigins_eq, he]

/-- With no posting in flight nothing of the ring is outstanding. -/
theorem State.PostingLawful.outstanding_of_idle (hs : s.PostingLawful) (h : s.posting = .idle) :
    ringOrigins s.issueLog = [] :=
  hs.outstanding.trans (by simp [State.postingOrigins, h])

/-- A request of another origin leaves the posting law as it stands. -/
theorem State.PostingLawful.issueRequest (hs : s.PostingLawful) {o : Origin} (ho : o.ofRing = false) (q : FpRequest) :
    (s.issueRequest o q).PostingLawful :=
  hs.congr rfl rfl rfl rfl (ringOrigins_append_of_not _ ho q) id fun _ => rfl

/-- The answer to another origin's request leaves the posting law as it stands. -/
theorem State.PostingLawful.answered (hs : s.PostingLawful) {e : LogEntry} {rest : List LogEntry}
    (hlog : s.issueLog = e :: rest) (he : e.origin.ofRing = false) : { s with issueLog := rest }.PostingLawful :=
  hs.congr rfl rfl rfl rfl (by rw [hlog, ringOrigins_cons_of_not he]) id fun _ => rfl

/-- A logged ring access is the posting's: it is in flight, with its ring RUNNING, a record waiting and nothing else of the
ring outstanding. -/
theorem State.PostingLawful.inFlight (hs : s.PostingLawful) {e : LogEntry} {rest : List LogEntry}
    (hlog : s.issueLog = e :: rest) (he : e.origin.ofRing = true) :
    s.posting ≠ .idle ∧ s.ringState = .running ∧ s.records ≠ [] ∧ ringOrigins rest = [] := by
  have hout := hs.outstanding
  rw [hlog, ringOrigins_cons he] at hout
  have hposting : s.posting ≠ .idle := fun h => by simp [State.postingOrigins, h] at hout
  refine ⟨hposting, hs.running hposting, hs.waiting (.inl hposting), ?_⟩
  unfold State.postingOrigins at hout
  split at hout <;> simp_all

/-! ## Commits, fallbacks and postings issued -/

theorem State.PostingLawful.issueCommitWrite (hs : s.PostingLawful) : s.issueCommitWrite.PostingLawful := by
  unfold State.issueCommitWrite
  split
  · next w ws _ =>
    have hb : { s with commitBuffer := ws }.PostingLawful := { hs with }
    exact hb.issueRequest rfl _
  · exact hs

theorem State.PostingLawful.beginCommit (hs : s.PostingLawful) (g : Fin 8) : (s.beginCommit g).PostingLawful := by
  unfold State.beginCommit State.reportCommit
  dsimp only
  split
  · refine State.PostingLawful.createRecord ?_ _ _ _ _
    exact { hs with }
  · exact { hs with }

theorem State.PostingLawful.issueFallbackOf (hs : s.PostingLawful) (i : Fin 48) :
    (s.issueFallbackOf i).PostingLawful := by
  unfold State.issueFallbackOf
  dsimp only
  split
  · next v _ =>
    have he : (s.setEntry i { s.entry i with reference := some v, mark := none }).PostingLawful := { hs with }
    exact he.issueRequest rfl _
  · exact hs

/-- A granted posting step has a RUNNING ring with a record waiting, and nothing of the ring outstanding. -/
theorem State.PostingLawful.granted (hs : s.PostingLawful) (h : s.grant = some .posting) :
    s.ringState = .running ∧ s.records ≠ [] ∧ ringOrigins s.issueLog = [] := by
  obtain ⟨-, ⟨-, hk⟩ | ⟨-, hchoice⟩⟩ := State.grant_some_cases h
  · cases hk
  · obtain ⟨hrun, hrec, hposting⟩ := State.postingOffered_iff.mp (State.openChoice_posting hchoice).2.2
    refine ⟨hrun, hrec, hs.outstanding.trans ?_⟩
    rcases hposting with hp | ⟨w, hp⟩ <;> simp [State.postingOrigins, hp]

/-- A granted step is then the posting's one outstanding request. -/
theorem State.PostingLawful.posted (hs : s.PostingLawful) (h : s.grant = some .posting) {p : Posting} {o : Origin}
    (ho : o.ofRing = true) (hp : { s with posting := p }.postingOrigins = [o]) (q : FpRequest) :
    ({ s with posting := p }.issueRequest o q).PostingLawful := by
  obtain ⟨hrun, hrec, hlog⟩ := hs.granted h
  refine ⟨fun _ => hrun, ?_, fun _ => hrec, fun hoff => ?_, hs.head⟩
  · have horigins := ringOrigins_append s.issueLog ho q
    rw [hlog, List.nil_append] at horigins
    exact horigins.trans hp.symm
  · have : s.ringState = .off := hoff
    rw [hrun] at this; cases this

/-! ## Memory answers -/

theorem State.PostingLawful.withSlots (hs : s.PostingLawful) (l : List Slot) : { s with slots := l }.PostingLawful :=
  { hs with }

theorem State.PostingLawful.offerWrite (hs : s.PostingLawful) (r : FpRequest) : (s.offerWrite r).PostingLawful := by
  unfold State.offerWrite
  split
  · next h =>
    have hidle : s.posting = .idle := by
      refine Classical.byContradiction fun hp => ?_
      rw [hs.running hp] at h; cases h.1
    refine ⟨fun h => absurd rfl h, ?_, by simp, by simp, ?_⟩
    · exact hs.outstanding_of_idle hidle
    · have hhead := hs.head
      simp only [h.1] at hhead
      exact .inl (hhead.resolve_right (by simp))
  · exact hs

theorem State.PostingLawful.answerTqSlot (hs : s.PostingLawful) (n : Word) (r : FpRequest) (m : MemStatus) (d : Word) :
    (s.answerTqSlot n r m d).PostingLawful := by
  unfold State.answerTqSlot
  split
  · exact hs
  · split
    · exact (hs.withSlots _).offerWrite r
    · exact hs.withSlots _
    · exact (hs.withSlots _).memErr _ _ _ _
    · exact (hs.withSlots _).memErr _ _ _ _

section
variable (hlog : ringOrigins s.issueLog = []) (hrec : s.records ≠ []) (hhead : s.head < s.ringSlots)
include hlog hrec hhead

/-- The posting over, with the ring SUSPENDED or STOPPED and its record still waiting. -/
theorem State.postingLawful_halted {r : RingState} (hr : r ≠ .off) (c : Byte) :
    { s with ringState := r, posting := .idle, causes := c }.PostingLawful :=
  ⟨fun h => absurd rfl h, hlog, fun _ => hrec, fun h => absurd h hr, .inl hhead⟩

/-- The next word offered. -/
theorem State.postingLawful_offered (hrun : s.ringState = .running) (w : Fin 4) :
    { s with posting := .offered w }.PostingLawful :=
  ⟨fun _ => hrun, hlog, fun _ => hrec, fun h => absurd (hrun.symm.trans h) (by simp), .inl hhead⟩

end

theorem State.postingLawful_completed (hlog : ringOrigins s.issueLog = []) (hrun : s.ringState = .running)
    (hhead : s.head < s.ringSlots) : s.completePosting.PostingLawful := by
  have hnot {r : RingState} (hr : r ≠ .running) : s.ringState ≠ r := fun h => hr (h.symm.trans hrun)
  have ht : ({ s with records := s.records.tail, head := (s.head + 1) % s.ringSlots, posting := .idle }.setCause
      causeRecord).PostingLawful := by
    refine ⟨fun h => absurd rfl h, hlog, fun h => ?_, fun h => absurd h (hnot (by simp)), .inl ?_⟩
    · rcases h with h | h | h
      · exact absurd rfl h
      · exact absurd h (hnot (by simp))
      · exact absurd h (hnot (by simp))
    · exact Nat.mod_lt _ (Nat.zero_lt_of_lt hhead)
  unfold State.completePosting State.reportLoss
  split
  · have hr := ht.createRecord .loss .nothing 0 (BitVec.ofNat 32 s.lost)
    exact { hr with }
  · exact ht

/-- The answer to the ring's outstanding request. -/
theorem State.PostingLawful.dispatchRing (hs : s.PostingLawful) {e : LogEntry} {rest : List LogEntry}
    (hlog : s.issueLog = e :: rest) (he : e.origin.ofRing = true) (m : MemStatus) (d : Word) :
    ({ s with issueLog := rest }.dispatch e m d).PostingLawful := by
  obtain ⟨-, hrun, hrec, hrest⟩ := hs.inFlight hlog he
  have hhead : s.head < s.ringSlots := hs.head.resolve_right fun h => by rw [hrun] at h; cases h.2.2
  have hhalt {r : RingState} (hr : r ≠ .off) (c : Byte) :
      { s with issueLog := rest, ringState := r, posting := .idle, causes := c }.PostingLawful :=
    State.postingLawful_halted (s := { s with issueLog := rest }) hrest hrec hhead hr c
  have hoffer (w : Fin 4) : { s with issueLog := rest, posting := .offered w }.PostingLawful :=
    State.postingLawful_offered (s := { s with issueLog := rest }) hrest hrec hhead hrun w
  unfold State.dispatch
  split
  · next h => simp [h, Origin.ofRing] at he
  · next h => simp [h, Origin.ofRing] at he
  · next h => simp [h, Origin.ofRing] at he
  · cases m with
    | error => exact hhalt (by simp) _
    | ok =>
      simp only [State.answerRingRead]
      split
      · exact hhalt (by simp) _
      · exact hoffer 1
  · cases m with
    | error => exact hhalt (by simp) _
    | ok =>
      simp only [State.answerRingWrite]
      split
      · exact hoffer 2
      · exact hoffer 3
      · exact hoffer 0
      · exact State.postingLawful_completed (s := { s with issueLog := rest }) hrest hrun hhead

theorem State.PostingLawful.dispatch (hs : s.PostingLawful) {e : LogEntry} {rest : List LogEntry}
    (hlog : s.issueLog = e :: rest) (m : MemStatus) (d : Word) :
    ({ s with issueLog := rest }.dispatch e m d).PostingLawful := by
  cases he : e.origin.ofRing with
  | true => exact hs.dispatchRing hlog he m d
  | false =>
    have hr := hs.answered hlog he
    unfold State.dispatch
    split
    · exact hr.answerTqSlot _ _ m d
    · cases m with
      | ok => exact hr
      | error => exact hr.memErr _ _ _ _
    · cases m with
      | ok => exact hr
      | error => exact hr.memErr _ _ _ _
    · next h => simp [h, Origin.ofRing] at he
    · next h => simp [h, Origin.ofRing] at he

/-! ## Every step -/

theorem State.PostingLawful.event (h : s.Event t) (hs : s.PostingLawful) : t.PostingLawful := by
  cases h with
  | idle same => exact hs.sameBlocks same
  | accept r room j judged =>
    have hcount : s.countAcceptance.PostingLawful := { hs with }
    have hj : j.1.PostingLawful := by rw [judged]; exact hcount.workedTo (s.judge_target_workedTo r)
    exact { hj with }
  | send x rest slots answered a => exact { hs with }
  | issue x granted oldest => exact (hs.withSlots _).issueRequest rfl _
  | commitStart g granted => exact (hs.beginCommit g).issueCommitWrite
  | commitWrite granted => exact hs.issueCommitWrite
  | fallback i granted => exact hs.issueFallbackOf i
  | ownershipRead granted idle q => exact hs.posted granted rfl rfl q
  | recordWrite granted w offered q => exact hs.posted granted rfl rfl q
  | answer e rest log m d => exact hs.dispatch log m d
  | discard log =>
    unfold State.discardAnswer
    dsimp only
    split <;> exact { hs with }
  | tick =>
    have hcount : s.tickCountdowns.PostingLawful := { hs with }
    exact hcount.workedTo s.tickEvent_workedTo
  | expireEntry i => exact hs.workedTo (s.expireEntry_workedTo i)
  | expireGroup g => exact hs.workedTo (s.expireGroup_workedTo g)
  | reset power =>
    refine ⟨fun h => absurd rfl h, rfl, fun h => ?_, fun _ => rfl, .inr ⟨rfl, rfl, rfl⟩⟩
    simp [State.deviceReset, State.reset] at h

theorem State.PostingLawful.modeEffects (hs : s.PostingLawful) (old new : Mode) :
    (s.modeEffects old new).PostingLawful := by
  have hmap (u : State) (hu : u.PostingLawful) (f : Fin 48 → Entry → Entry) : (u.mapEntries f).PostingLawful :=
    { hu with }
  have habandon := hs.workedTo s.abandonOpen_workedTo
  unfold State.modeEffects
  split
  · exact hmap s hs _
  · exact hmap s hs _
  · exact habandon
  · exact hmap _ habandon _
  · exact hmap s hs _
  all_goals exact hs

theorem State.PostingLawful.commanded (h : s.Commanded t) (hs : s.PostingLawful) : t.PostingLawful := by
  cases h with
  | same same => exact hs.sameBlocks same
  | mode m =>
    have hm := hs.modeEffects s.mode m
    exact { hm with }
  | disable p g =>
    have he := hs.workedTo (s.endRound_workedTo g)
    exact { he with }
  | ringStart base slots stopped args free =>
    have hidle : s.posting = .idle := by
      refine Classical.byContradiction fun hp => ?_
      rw [hs.running hp] at stopped
      simp at stopped
    have hslots : 0 < slots.toNat := by
      simp only [ringArgsOk, Bool.and_eq_true, decide_eq_true_eq] at args
      omega
    refine ⟨fun h => absurd rfl h, ?_, fun h => ?_, fun h => by simp [State.startRing] at h, .inl hslots⟩
    · exact hs.outstanding_of_idle hidle
    · simp [State.startRing] at h
  | ringOff idle =>
    refine ⟨fun h => absurd idle h, hs.outstanding, fun h => ?_, fun _ => rfl, hs.head.imp_right fun h => ?_⟩
    · simp [idle] at h
    · exact ⟨h.1, h.2.1, rfl⟩
  | ringPoll suspended =>
    have hidle : s.posting = .idle := by
      refine Classical.byContradiction fun hp => ?_
      rw [hs.running hp] at suspended; cases suspended
    refine ⟨fun h => absurd rfl h, ?_, fun h => by simp at h, fun h => by simp at h, ?_⟩
    · exact hs.outstanding_of_idle hidle
    · exact .inl (hs.head.resolve_right fun h => by rw [suspended] at h; cases h.2.2)
  | _ => exact { hs with }

/-- Settles O56: a step of the posting is granted only with nothing of the ring outstanding, its answer takes its request out
of the log, and every other event leaves the log's ring origins and a waiting record as they stand. -/
theorem stepKeepsPostingLaw : Obligations.StepKeepsPostingLaw := fun _ _ hs h =>
  step_keeps State.PostingLawful.sameBlocks State.PostingLawful.event State.PostingLawful.commanded h hs

end Sys2Proof.Machine
end

section
/-! SUPPORT. Proofs for the entries' place and deadlines: what every event leaves of an entry, the entries after a tick, and
the placement and deadline laws (R10, R11, R16, R17, R111, R116). -/

namespace Sys2Proof.Machine

variable {s t : State} {e : Entry}

/-! ## The entries after each event -/

@[simp] theorem State.entry_tickCountdowns (s : State) (i : Fin 48) :
    s.tickCountdowns.entry i = (s.entry i).tickDown s.mode := by
  simp [State.entry, State.tickCountdowns]

@[simp] theorem State.entry_issueCommitWrite (s : State) (i : Fin 48) : s.issueCommitWrite.entry i = s.entry i := by
  rw [State.issueCommitWrite_frame]; rfl

@[simp] theorem State.entry_beginCommit (s : State) (g : Fin 8) (i : Fin 48) :
    (s.beginCommit g).entry i = s.commitReference g i (s.entry i) := by
  unfold State.beginCommit State.reportCommit
  dsimp only
  split
  · rw [State.entry_createRecord]
    exact State.entry_mapEntries s i _
  · exact State.entry_mapEntries s i _

theorem State.entry_dispatch (s : State) (x : LogEntry) (m : MemStatus) (d : Word) (i : Fin 48) :
    (s.dispatch x m d).entry i = s.entry i := by
  rw [State.dispatch_frame]; rfl

/-- An entry's expiry where its running countdown stands at 0 (R114). -/
def Entry.expireIfDue (e : Entry) (m : Mode) (accepted : Nat) : Entry :=
  if e.deadlineRuns m = true ∧ e.remaining = some 0 then
    e.expire (decide (m = .enforce) && e.fallback.isSome) accepted
  else e

/-- An expired entry's deadline runs no more. -/
theorem Entry.expireIfDue_idem (e : Entry) (m : Mode) (n : Nat) :
    (e.expireIfDue m n).expireIfDue m n = e.expireIfDue m n := by
  by_cases h : e.deadlineRuns m = true ∧ e.remaining = some 0
  · have hdue : e.expireIfDue m n = e.expire (decide (m = .enforce) && e.fallback.isSome) n := if_pos h
    rw [hdue]
    exact if_neg (by simp [Entry.expire, Entry.deadlineRuns])
  · have hstay : e.expireIfDue m n = e := if_neg h
    rw [hstay, hstay]

theorem State.entry_expireEntry (s : State) (i j : Fin 48) :
    (s.expireEntry i).entry j = if i = j then (s.entry j).expireIfDue s.mode s.accepted else s.entry j := by
  unfold State.expireEntry Entry.expireIfDue
  dsimp only
  by_cases hij : i = j
  · subst hij
    rw [if_pos rfl]
    split
    · simp [State.pendsFallback]
    · rfl
  · rw [if_neg hij]
    split
    · simp [State.entry_setEntry_ne _ _ _ _ hij]
    · rfl

/-- The expiries of a tick, entry by entry. -/
theorem State.entry_foldl_expireEntry (j : Fin 48) : ∀ (l : List (Fin 48)) (s : State),
    (l.foldl (fun t i => t.expireEntry i) s).entry j =
      if j ∈ l then (s.entry j).expireIfDue s.mode s.accepted else s.entry j
  | [], s => by simp
  | i :: l, s => by
    have hj := s.expireEntry_judged i
    rw [List.foldl_cons, State.entry_foldl_expireEntry j l, State.entry_expireEntry, hj.mode, hj.accepted]
    by_cases hij : i = j
    · simp [hij, Entry.expireIfDue_idem]
    · simp [hij, Ne.symm hij]

@[simp] theorem State.entry_expireGroup (s : State) (g : Fin 8) (i : Fin 48) : (s.expireGroup g).entry i = s.entry i := by
  unfold State.expireGroup
  split
  · exact State.entry_abandon s g _ i
  · rfl

theorem State.entry_foldl_expireGroup (i : Fin 48) : ∀ (l : List (Fin 8)) (s : State),
    (l.foldl (fun t g => t.expireGroup g) s).entry i = s.entry i
  | [], _ => rfl
  | g :: l, s => by rw [List.foldl_cons, State.entry_foldl_expireGroup i l, State.entry_expireGroup]

/-- An entry after a tick: its countdown taken down, and its expiry where that reached 0 (R110). -/
theorem State.entry_tickEvent (s : State) (i : Fin 48) :
    s.tickEvent.entry i = ((s.entry i).tickDown s.mode).expireIfDue s.mode s.accepted := by
  unfold State.tickEvent
  rw [State.entry_foldl_expireGroup, State.entry_foldl_expireEntry, if_pos (List.mem_finRange i),
    State.entry_tickCountdowns]
  rfl

@[simp] theorem State.entry_abandonIfOpen (s : State) (g : Fin 8) (i : Fin 48) :
    (s.abandonIfOpen g).entry i = s.entry i := by
  unfold State.abandonIfOpen
  split
  · exact State.entry_abandon s g _ i
  · rfl

theorem State.entry_foldl_abandonIfOpen (i : Fin 48) : ∀ (l : List (Fin 8)) (s : State),
    (l.foldl (fun t g => t.abandonIfOpen g) s).entry i = s.entry i
  | [], _ => rfl
  | g :: l, s => by rw [List.foldl_cons, State.entry_foldl_abandonIfOpen i l, State.entry_abandonIfOpen]

@[simp] theorem State.entry_abandonOpen (s : State) (i : Fin 48) : s.abandonOpen.entry i = s.entry i :=
  State.entry_foldl_abandonIfOpen i _ s

@[simp] theorem State.entry_endRound (s : State) (g : Fin 8) (i : Fin 48) : (s.endRound g).entry i = s.entry i := by
  unfold State.endRound
  split
  · exact State.entry_abandon s g _ i
  · rfl

@[simp] theorem State.entry_clearMarks (s : State) (i : Fin 48) :
    s.clearMarks.entry i = { s.entry i with mark := none } := by
  simp [State.clearMarks]

/-- The entries after a mode change: deadlines started on leaving BYPASS, marks cleared on leaving ENFORCE (R153, R120). -/
theorem State.entry_changeMode (s : State) (m : Mode) (i : Fin 48) :
    (s.changeMode m).entry i =
      if s.mode = .bypass ∧ m ≠ .bypass then (s.entry i).leaveBypass
      else if s.mode = .enforce ∧ m ≠ .enforce then { s.entry i with mark := none } else s.entry i := by
  show (s.modeEffects s.mode m).entry i = _
  cases s.mode <;> cases m <;> simp [State.modeEffects]

/-! ## What stays of every entry -/

theorem Entry.sameSetup_tickDown (e : Entry) (m : Mode) : e.SameSetup (e.tickDown m) := by
  unfold Entry.tickDown
  split <;> exact ⟨rfl, Iff.rfl⟩

theorem State.sameSetup_commitReference (s : State) (g : Fin 8) (i : Fin 48) (e : Entry) :
    e.SameSetup (s.commitReference g i e) := by
  unfold State.commitReference
  split
  · split <;> exact ⟨rfl, Iff.rfl⟩
  · exact .refl e

theorem Entry.sameSetup_setReference (e : Entry) (v : Option Int) (m : Option Nat) :
    e.SameSetup { e with reference := v, mark := m } := ⟨rfl, Iff.rfl⟩

theorem State.sameSetup_setEntry (i : Fin 48) {x : Entry} (h : (s.entry i).SameSetup x) (j : Fin 48) :
    (s.entry j).SameSetup ((s.setEntry i x).entry j) := by
  rw [State.entry_setEntry]
  split
  · next hij => subst hij; exact h
  · exact .refl _

theorem State.entry_issueFallbackOf_sameSetup (s : State) (i j : Fin 48) :
    (s.entry j).SameSetup ((s.issueFallbackOf i).entry j) := by
  unfold State.issueFallbackOf
  dsimp only
  split
  · exact State.sameSetup_setEntry i (Entry.sameSetup_setReference _ _ _) j
  · exact .refl _

/-- Every event but a reset leaves every entry its place and its rules (R12). -/
theorem State.Event.sameSetup (h : s.Event t) (hreset : ∀ power, t ≠ s.deviceReset power) (i : Fin 48) :
    (s.entry i).SameSetup (t.entry i) := by
  cases h with
  | idle same => rw [same]; exact .refl _
  | accept r room j judged =>
    rw [judged]
    exact (s.judge_target_workedTo r).sameSetup i
  | commitStart g granted =>
    rw [State.entry_issueCommitWrite, State.entry_beginCommit]
    exact s.sameSetup_commitReference g i _
  | commitWrite granted => simpa using Entry.SameSetup.refl _
  | fallback k granted => exact s.entry_issueFallbackOf_sameSetup k i
  | answer x rest log m d => rw [State.entry_dispatch]; exact .refl _
  | discard log =>
    unfold State.discardAnswer
    dsimp only
    split <;> exact .refl _
  | tick =>
    refine .trans ?_ (s.tickEvent_workedTo.sameSetup i)
    rw [State.entry_tickCountdowns]
    exact Entry.sameSetup_tickDown _ _
  | expireEntry k => exact (s.expireEntry_workedTo k).sameSetup i
  | expireGroup g => exact (s.expireGroup_workedTo g).sameSetup i
  | reset power => exact absurd rfl (hreset power)
  | _ => exact .refl _

theorem State.entry_deviceReset (s : State) (power : Bool) (i : Fin 48) :
    (s.deviceReset power).entry i = Entry.vacant := by
  simp [State.deviceReset, State.reset, State.entry]

theorem Entry.sameSetup_leaveBypass (e : Entry) : e.SameSetup e.leaveBypass := by
  unfold Entry.leaveBypass
  split <;> exact ⟨rfl, Iff.rfl⟩

theorem State.sameSetup_changeMode (s : State) (m : Mode) (i : Fin 48) :
    (s.entry i).SameSetup ((s.changeMode m).entry i) := by
  rw [State.entry_changeMode]
  split
  · exact Entry.sameSetup_leaveBypass _
  · split
    · exact Entry.sameSetup_setReference _ _ _
    · exact .refl _

theorem Entry.sameSetup_release (h : e.state = .latched) (m : Mode) : e.SameSetup (e.release m) := by
  unfold Entry.release Entry.freshDeadline
  split <;> exact ⟨rfl, by simp [h, Entry.startDeadline]⟩

/-! ## The placement law (R16, R17) -/

theorem State.entryMeets_iff {a n : Nat} : s.entryMeets a n = true ↔ s.overlapsEntry a n := by
  simp [State.entryMeets, Entry.occupied, Entry.meets, rangesMeet, State.overlapsEntry]

theorem State.ringMeets_iff {a n : Nat} : s.ringMeets a n = true ↔ s.overlapsRing a n := by
  simp [State.ringMeets, rangesMeet, State.overlapsRing]

/-- Entries that keep their places, or leave, and a ring region that stays, or goes, keep the law. -/
theorem State.Placed.kept (hs : s.Placed)
    (hentry : ∀ i, (t.entry i).state ≠ .vacant → (s.entry i).state ≠ .vacant ∧
      (t.entry i).address = (s.entry i).address ∧ (t.entry i).width = (s.entry i).width)
    (hring : t.ringState ≠ .off → s.ringState ≠ .off ∧ t.ringBase = s.ringBase ∧ t.ringSlots = s.ringSlots) :
    t.Placed where
  apart i j hij hi hj := by
    obtain ⟨hi', hia, hiw⟩ := hentry i hi
    obtain ⟨hj', hja, hjw⟩ := hentry j hj
    rw [hia, hiw, hja, hjw]
    exact hs.apart i j hij hi' hj'
  offRing hoff i hi := by
    obtain ⟨hi', hia, hiw⟩ := hentry i hi
    obtain ⟨hr, hbase, hslots⟩ := hring hoff
    rw [hia, hiw, hbase, hslots]
    exact hs.offRing hr i hi'

theorem Entry.SameSetup.place {e' : Entry} (h : e.SameSetup e') :
    e'.state ≠ .vacant → e.state ≠ .vacant ∧ e'.address = e.address ∧ e'.width = e.width :=
  fun hv => ⟨fun h' => hv (h.vacant.mpr h'), h.address, h.width⟩

/-- A new entry at a free place, or one that keeps its place. -/
theorem State.Placed.setEntry (hs : s.Placed) (i : Fin 48) {x : Entry}
    (hentry : x.state ≠ .vacant → ¬ s.overlapsEntry x.address.toNat x.width.bytes ∨
      (s.entry i).state ≠ .vacant ∧ x.address = (s.entry i).address ∧ x.width = (s.entry i).width)
    (hring : x.state ≠ .vacant → ¬ s.overlapsRing x.address.toNat x.width.bytes ∨
      (s.entry i).state ≠ .vacant ∧ x.address = (s.entry i).address ∧ x.width = (s.entry i).width) :
    (s.setEntry i x).Placed := by
  have hfree : x.state ≠ .vacant → ∀ j, j ≠ i → (s.entry j).state ≠ .vacant →
      x.address.toNat + x.width.bytes ≤ (s.entry j).address.toNat ∨
        (s.entry j).address.toNat + (s.entry j).width.bytes ≤ x.address.toNat := by
    intro hx j hj hjv
    rcases hentry hx with hno | ⟨hiv, ha, hw⟩
    · refine Classical.byContradiction fun hcon => ?_
      exact hno ⟨j, hjv, by omega, by omega⟩
    · rw [ha, hw]
      exact hs.apart i j hj.symm hiv hjv
  refine ⟨fun j k hjk hj hk => ?_, fun hoff j hj => ?_⟩
  · rw [State.entry_setEntry] at hj hk ⊢
    rw [State.entry_setEntry]
    by_cases hij : i = j
    · subst hij
      rw [if_pos rfl] at hj ⊢
      rw [if_neg hjk] at hk ⊢
      exact hfree hj k hjk.symm hk
    · rw [if_neg hij] at hj ⊢
      by_cases hik : i = k
      · subst hik
        rw [if_pos rfl] at hk ⊢
        exact (hfree hk j hjk hj).symm
      · rw [if_neg hik] at hk ⊢
        exact hs.apart j k hjk hj hk
  · rw [State.entry_setEntry] at hj ⊢
    by_cases hij : i = j
    · subst hij
      rw [if_pos rfl] at hj ⊢
      rcases hring hj with hno | ⟨hiv, ha, hw⟩
      · refine Classical.byContradiction fun hcon => ?_
        rw [State.setEntry_ringBase, State.setEntry_ringSlots] at hcon
        exact hno ⟨hoff, by omega, by omega⟩
      · rw [ha, hw]
        exact hs.offRing hoff i hiv
    · rw [if_neg hij] at hj ⊢
      exact hs.offRing hoff j hj

/-- No event brings up a ring that is OFF, or moves its region: a ring answer finds its ring RUNNING. -/
theorem State.Event.ring (h : s.Event t) (hp : s.PostingLawful) (hreset : ∀ power, t ≠ s.deviceReset power) :
    (t.ringState ≠ .off → s.ringState ≠ .off) ∧ t.ringBase = s.ringBase ∧ t.ringSlots = s.ringSlots := by
  have hjudged {u : State} (hj : s.JudgedFrom u) :
      (u.ringState ≠ .off → s.ringState ≠ .off) ∧ u.ringBase = s.ringBase ∧ u.ringSlots = s.ringSlots :=
    ⟨fun h => hj.ringState ▸ h, hj.ringBase, hj.ringSlots⟩
  cases h with
  | idle same => rw [same]; exact ⟨id, rfl, rfl⟩
  | accept r room j judged =>
    have hj := (s.judge_target_workedTo r).judged
    rw [← judged] at hj
    exact ⟨fun h => hj.ringState ▸ h, hj.ringBase, hj.ringSlots⟩
  | commitStart g granted =>
    rw [(s.beginCommit g).issueCommitWrite_frame, s.beginCommit_frame]
    exact ⟨id, rfl, rfl⟩
  | commitWrite granted => rw [s.issueCommitWrite_frame]; exact ⟨id, rfl, rfl⟩
  | fallback k granted => rw [s.issueFallbackOf_frame]; exact ⟨id, rfl, rfl⟩
  | answer x rest log m d =>
    have hframe := State.dispatch_frame { s with issueLog := rest } x m d
    refine ⟨fun hoff hsoff => ?_, by rw [hframe], by rw [hframe]⟩
    cases hx : x.origin.ofRing with
    | true =>
      have hrun := (hp.inFlight log hx).2.1
      rw [hsoff] at hrun; cases hrun
    | false =>
      refine hoff ?_
      unfold State.dispatch
      split
      · rw [(State.answerTqSlot_keeps_ring (s := { s with issueLog := rest }) (by simp [hsoff]) _ _ m d).1]
        exact hsoff
      · cases m with
        | ok => exact hsoff
        | error => exact (State.memErr_judged _ _ _ _ _).ringState.trans hsoff
      · cases m with
        | ok => exact hsoff
        | error => exact (State.memErr_judged _ _ _ _ _).ringState.trans hsoff
      · next h => simp [h, Origin.ofRing] at hx
      · next h => simp [h, Origin.ofRing] at hx
  | discard log =>
    unfold State.discardAnswer
    dsimp only
    split <;> exact ⟨id, rfl, rfl⟩
  | tick => rw [s.tickEvent_frame]; exact ⟨id, rfl, rfl⟩
  | expireEntry k => exact hjudged (s.expireEntry_judged k)
  | expireGroup g => exact hjudged (s.expireGroup_judged g)
  | reset power => exact absurd rfl (hreset power)
  | _ => exact ⟨id, rfl, rfl⟩

theorem State.placed_deviceReset (s : State) (power : Bool) : (s.deviceReset power).Placed :=
  ⟨fun i _ _ hi => absurd (by rw [State.entry_deviceReset]; rfl) hi, fun h => absurd rfl h⟩

theorem State.Placed.event (h : s.Event t) (hs : s.Placed) (hp : s.PostingLawful) : t.Placed := by
  by_cases hreset : ∃ power, t = s.deviceReset power
  · obtain ⟨power, rfl⟩ := hreset
    exact s.placed_deviceReset power
  · have hno : ∀ power, t ≠ s.deviceReset power := fun power ht => hreset ⟨power, ht⟩
    obtain ⟨hring, hbase, hslots⟩ := h.ring hp hno
    exact hs.kept (fun i => (h.sameSetup hno i).place) fun hoff => ⟨hring hoff, hbase, hslots⟩

theorem State.Placed.sameBlocks (h : s.SameBlocks t) (hs : s.Placed) : t.Placed := by
  rw [h]; exact { hs with }

theorem State.Placed.commanded (h : s.Commanded t) (hs : s.Placed) : t.Placed := by
  have hkept (i : Fin 48) {x : Entry} (hx : x.state ≠ .vacant → (s.entry i).state ≠ .vacant ∧
      x.address = (s.entry i).address ∧ x.width = (s.entry i).width) : (s.setEntry i x).Placed :=
    hs.setEntry i (fun h => .inr (hx h)) fun h => .inr (hx h)
  cases h with
  | same same => exact hs.sameBlocks same
  | mode m =>
    have hj := s.modeEffects_judged s.mode m
    exact hs.kept (fun i => (s.sameSetup_changeMode m i).place) fun h => ⟨hj.ringState ▸ h, hj.ringBase, hj.ringSlots⟩
  | load p i a args fits =>
    simp only [State.loadFits, Bool.and_eq_true, Bool.not_eq_true', ← Bool.not_eq_true, State.entryMeets_iff,
      State.ringMeets_iff] at fits
    obtain ⟨⟨⟨-, hentry⟩, hring⟩, -⟩ := fits
    have hplace : ((loadedEntry p a).freshDeadline s.mode).address = (loadedEntry p a).address ∧
        ((loadedEntry p a).freshDeadline s.mode).width = (loadedEntry p a).width := by
      unfold Entry.freshDeadline
      split <;> exact ⟨rfl, rfl⟩
    exact hs.setEntry i (fun _ => .inl (by rwa [hplace.1, hplace.2])) fun _ => .inl (by rwa [hplace.1, hplace.2])
  | tune p i a occupied => exact hkept i fun _ => ⟨occupied, rfl, rfl⟩
  | fresh p i args occupied =>
    refine hkept i fun _ => ⟨occupied, ?_⟩
    unfold Entry.refreshed Entry.freshDeadline
    split
    · split <;> exact ⟨rfl, rfl⟩
    · exact ⟨rfl, rfl⟩
  | retire i free => exact hkept i fun h => absurd rfl h
  | preload i v => exact hkept i fun h => ⟨h, rfl, rfl⟩
  | forget i => exact hkept i fun h => ⟨h, rfl, rfl⟩
  | clearSticky i flags => exact hkept i fun h => ⟨h, rfl, rfl⟩
  | release i latched => exact hkept i (Entry.sameSetup_release latched s.mode).place
  | enable p g => exact { hs with }
  | disable p g =>
    have hj := (s.endRound_workedTo g).judged
    refine hs.kept (fun i h => ?_) fun h => ⟨hj.ringState ▸ h, hj.ringBase, hj.ringSlots⟩
    rw [State.entry_setGroup, State.entry_endRound] at *
    exact ⟨h, rfl, rfl⟩
  | ringStart base slots stopped args free =>
    have hfree : ¬ s.overlapsEntry base.toNat (16 * slots.toNat) := by
      rw [← State.entryMeets_iff, free]; decide
    refine ⟨hs.apart, fun _ i hi => ?_⟩
    show (s.entry i).address.toNat + (s.entry i).width.bytes ≤ base.toNat ∨
      base.toNat + 16 * slots.toNat ≤ (s.entry i).address.toNat
    refine Classical.byContradiction fun hcon => ?_
    exact hfree ⟨i, hi, by omega, by omega⟩
  | ringOff idle => exact ⟨hs.apart, fun h => absurd rfl h⟩
  | ringPoll suspended => exact ⟨hs.apart, fun _ => hs.offRing (by simp [suspended])⟩

/-- Settles O54: entries and the ring region move only by LOAD_ENTRY and CONFIG_RING, which place them where nothing stands;
with the posting law a ring answer never brings up a ring that is OFF. -/
theorem stepKeepsPlacementLaw : Obligations.StepKeepsPlacementLaw := fun _ _ hs hp h =>
  (step_keeps (P := fun s => s.Placed ∧ s.PostingLawful)
    (fun h hs => ⟨hs.1.sameBlocks h, hs.2.sameBlocks h⟩) (fun h hs => ⟨hs.1.event h hs.2, hs.2.event h⟩)
    (fun h hs => ⟨hs.1.commanded h, hs.2.commanded h⟩) h ⟨hs, hp⟩).1

/-! ## The deadline law -/

theorem Entry.deadlineLawful_vacant (m : Mode) : Entry.vacant.DeadlineLawful m :=
  ⟨fun n h => by simp [Entry.vacant] at h, fun h => by simp [Entry.vacant] at h,
    fun p h => by simp [Entry.vacant] at h, fun h => by simp [Entry.vacant] at h⟩

/-- The law speaks of the state, the countdown, the mark, the period, the group and the fallback value. -/
theorem Entry.DeadlineLawful.touched {m : Mode} {n : Nat} {e' : Entry} (h : Entry.Touched m n e e')
    (he : e.DeadlineLawful m) : e'.DeadlineLawful m := by
  cases h with
  | counted flags => exact { he with }
  | denied => exact { he with }
  | latched due =>
    exact { he with
      count := fun n hn => by cases hn
      mark := fun hm => ⟨(he.mark hm).1, .inr rfl, (he.mark hm).2.2⟩ }
  | admitted v occupied typed =>
    unfold Entry.admitValue
    split
    · exact { he with mark := fun hm => by cases hm }
    · refine { he with count := fun n hn => ⟨rfl, ?_, n, hn, Nat.le_refl n⟩, mark := fun hm => by cases hm }
      exact (he.period n hn).1
  | expired runs =>
    refine { he with count := fun n hn => (by cases hn), mark := fun hm => ?_ }
    obtain ⟨hready, -⟩ := Entry.state_of_deadlineRuns runs
    by_cases hpend : m = .enforce ∧ e.fallback.isSome = true
    · exact ⟨hpend.1, .inl rfl, hpend.2⟩
    · have hmark : e.mark.isSome = true := by
        have hno : (decide (m = .enforce) && e.fallback.isSome) = false := by simpa using hpend
        simpa [Entry.expire, hno] using hm
      have := (he.mark hmark).2.1
      simp [hready] at this

/-- The reference and the sticky flags may change, and a mark be cleared. -/
theorem Entry.DeadlineLawful.written {m : Mode} (he : e.DeadlineLawful m) (v : Option Int) (f : BitVec 6) :
    { e with reference := v, mark := none, sticky := f }.DeadlineLawful m ∧
      { e with reference := v, sticky := f }.DeadlineLawful m :=
  ⟨{ he with mark := fun h => by cases h }, { he with }⟩

theorem Entry.DeadlineLawful.tickDown_expire {m : Mode} (he : e.DeadlineLawful m) (n : Nat) :
    ((e.tickDown m).expireIfDue m n).DeadlineLawful m := by
  unfold Entry.tickDown
  split
  · next hruns =>
    -- A deadline that runs is lawful again one tick lower, or at 0 it expires.
    have hruns' : ({ e with remaining := countDown e.remaining } : Entry).deadlineRuns m = true := hruns
    unfold Entry.expireIfDue
    split
    · have he' : ({ e with remaining := none } : Entry).DeadlineLawful m := { he with count := fun n h => by cases h }
      exact Entry.DeadlineLawful.touched (.expired (accepted := n) { e with remaining := none } hruns) he'
    · next hdue =>
      refine { he with count := fun k hk => ?_ }
      obtain ⟨l, hl, rfl⟩ := Option.map_eq_some_iff.mp hk
      obtain ⟨hready, hpos, p, hp, hle⟩ := he.count l hl
      have hne : l - 1 ≠ 0 := fun h0 => hdue ⟨hruns', by simp [countDown, hl, h0]⟩
      exact ⟨hready, by omega, p, hp, by omega⟩
  · next hruns =>
    rw [Entry.expireIfDue, if_neg (fun h => hruns h.1)]
    exact he

theorem State.DeadlinesLawful.setEntry (hs : s.DeadlinesLawful) (i : Fin 48) {x : Entry}
    (hx : x.DeadlineLawful s.mode) : (s.setEntry i x).DeadlinesLawful := by
  intro j
  rw [State.entry_setEntry]
  split
  · exact hx
  · exact hs j

theorem State.DeadlinesLawful.congr (hs : s.DeadlinesLawful) (hentry : ∀ i, t.entry i = s.entry i)
    (hmode : t.mode = s.mode) : t.DeadlinesLawful := fun i => by
  rw [hentry, hmode]; exact hs i

theorem State.DeadlinesLawful.sameBlocks (h : s.SameBlocks t) (hs : s.DeadlinesLawful) : t.DeadlinesLawful := by
  rw [h]; exact hs

theorem State.DeadlinesLawful.worked (h : s.Worked t) (hs : s.DeadlinesLawful) : t.DeadlinesLawful := by
  have hmode := h.judged.mode
  cases h with
  | entry i e touched => exact hs.setEntry i ((hs i).touched touched)
  | record d x a v => exact hs.congr (fun i => by simp) hmode
  | cause c => exact hs
  | staged g i v => exact hs.congr (fun i => by simp) hmode
  | restaged i v => exact hs
  | abandoned g c => exact hs.congr (fun i => by simp) hmode

theorem State.DeadlinesLawful.workedTo (h : s.WorkedTo t) (hs : s.DeadlinesLawful) : t.DeadlinesLawful :=
  h.keeps State.DeadlinesLawful.worked hs

theorem State.DeadlinesLawful.event (h : s.Event t) (hs : s.DeadlinesLawful) : t.DeadlinesLawful := by
  cases h with
  | idle same => exact hs.sameBlocks same
  | accept r room j judged =>
    have hj : j.1.DeadlinesLawful := by
      rw [judged]
      exact State.DeadlinesLawful.workedTo (s.judge_target_workedTo r) hs
    exact hj
  | commitStart g granted =>
    refine fun i => ?_
    have hmode : ((s.beginCommit g).issueCommitWrite).mode = s.mode := by
      rw [(s.beginCommit g).issueCommitWrite_frame, s.beginCommit_frame]
    rw [State.entry_issueCommitWrite, State.entry_beginCommit, hmode]
    unfold State.commitReference
    split
    · split
      · exact ((hs i).written _ _).2
      · exact hs i
    · exact hs i
  | commitWrite granted => exact hs.congr (by simp) (by rw [s.issueCommitWrite_frame])
  | fallback k granted =>
    unfold State.issueFallbackOf
    dsimp only
    split
    · exact hs.setEntry k ((hs k).written _ _).1
    · exact hs
  | answer x rest log m d =>
    exact hs.congr (fun i => State.entry_dispatch _ x m d i) (by rw [State.dispatch_frame])
  | discard log =>
    unfold State.discardAnswer
    dsimp only
    split <;> exact hs
  | tick =>
    intro i
    rw [State.entry_tickEvent, show s.tickEvent.mode = s.mode by rw [s.tickEvent_frame]]
    exact (hs i).tickDown_expire _
  | expireEntry k => exact hs.workedTo (s.expireEntry_workedTo k)
  | expireGroup g => exact hs.workedTo (s.expireGroup_workedTo g)
  | reset power =>
    intro i
    rw [State.entry_deviceReset]
    exact Entry.deadlineLawful_vacant _
  | _ => exact hs

/-- A mark stands in ENFORCE alone, so that a mode change that clears marks on leaving it keeps the law. -/
theorem State.DeadlinesLawful.changeMode (hs : s.DeadlinesLawful) (m : Mode) : (s.changeMode m).DeadlinesLawful := by
  intro i
  have he := hs i
  rw [State.entry_changeMode]
  show Entry.DeadlineLawful _ m
  split
  · next h =>
    have hmark : ∀ {x : Prop}, (s.entry i).mark.isSome = true → x := fun hm => by
      have := (he.mark hm).1
      rw [h.1] at this; cases this
    unfold Entry.leaveBypass
    split
    · next hready =>
      exact { he with
        count := fun n hn => ⟨hready.1, (he.period n hn).1, n, hn, Nat.le_refl n⟩
        mark := fun hm => hmark hm }
    · exact { he with mark := fun hm => hmark hm }
  · split
    · exact { he with mark := fun hm => by cases hm }
    · next hstay =>
      refine { he with mark := fun hm => ⟨?_, (he.mark hm).2⟩ }
      have := (he.mark hm).1
      refine Classical.byContradiction fun hne => ?_
      exact hstay ⟨this, hne⟩

/-- A deadline at the full period, or none, is lawful in READY. -/
theorem Entry.deadlineLawful_freshDeadline {m : Mode} (hstate : e.state = .ready) (hmark : e.mark = none)
    (hperiod : ∀ p, e.period = some p → 1 ≤ p ∧ p ≤ 65535 ∧ e.group = none)
    (hfallback : e.fallback.isSome = true → e.period.isSome = true) : (e.freshDeadline m).DeadlineLawful m := by
  unfold Entry.freshDeadline
  split
  · exact ⟨fun n h => (by cases h), fun h => (by simp [hmark] at h), hperiod, hfallback⟩
  · exact ⟨fun n h => ⟨hstate, (hperiod n h).1, n, h, Nat.le_refl n⟩,
      fun h => (by simp [Entry.startDeadline, hmark] at h), hperiod, hfallback⟩

theorem present_eq_some {α : Type} {flag : Bool} {v x : α} : present flag v = some x ↔ flag = true ∧ x = v := by
  cases flag <;> simp [present, eq_comm]

theorem isSome_present {α : Type} {flag : Bool} {v : α} : (present flag v).isSome = flag := by
  cases flag <;> rfl

/-- The deadline parts of a payload that LOAD_ENTRY takes (R11, R18). -/
theorem loadedEntry_deadlineLawful {p : LoadPayload} {a : Action} (h : loadArgsOk p (loadedEntry p a) = true) (m : Mode) :
    ((loadedEntry p a).freshDeadline m).DeadlineLawful m := by
  simp only [loadArgsOk, Bool.and_eq_true, decide_eq_true_eq, Bool.or_eq_true, Bool.not_eq_true',
    Bool.and_eq_false_iff] at h
  obtain ⟨⟨⟨⟨-, hnonzero⟩, hexclusive⟩, hfallback⟩, -⟩ := h
  refine Entry.deadlineLawful_freshDeadline rfl rfl (fun n hn => ?_) fun hf => ?_
  · obtain ⟨hflag, rfl⟩ := present_eq_some.mp hn
    refine ⟨Nat.pos_of_ne_zero fun h0 => hnonzero (hn.trans (congrArg some h0)), by omega, ?_⟩
    show (if p.flags.getLsbD 4 then groupOf p.group.toNat else none) = none
    rw [hexclusive.resolve_right (by rw [hflag]; decide)]
    rfl
  · exact hfallback.resolve_left (by simp [hf])

/-- The deadline parts that SET_FRESH gives an ungrouped entry (R121). -/
theorem refreshedEntry_deadlineLawful {p : FreshPayload} {m : Mode} (he : e.DeadlineLawful m)
    (hargs : freshArgsOk p = true) (hgroup : e.group = none) :
    ((refreshedEntry p e).refreshed m).DeadlineLawful m := by
  simp only [freshArgsOk, Bool.and_eq_true, Bool.not_eq_true', Bool.and_eq_false_iff, decide_eq_false_iff_not,
    Bool.or_eq_true] at hargs
  obtain ⟨hnonzero, hfb⟩ := hargs
  have hperiod : ∀ n, (refreshedEntry p e).period = some n → 1 ≤ n ∧ n ≤ 65535 ∧ (refreshedEntry p e).group = none := by
    intro n hn
    obtain ⟨hflag, rfl⟩ := present_eq_some.mp hn
    have hp : p.period ≠ 0 := hnonzero.resolve_left (by simp [hflag])
    refine ⟨Nat.pos_of_ne_zero fun h0 => hp (BitVec.eq_of_toNat_eq h0), by omega, hgroup⟩
  have hfallback : (refreshedEntry p e).fallback.isSome = true → (refreshedEntry p e).period.isSome = true := by
    intro hf
    simp only [refreshedEntry, isSome_present] at hf ⊢
    exact hfb.resolve_left (by simp [hf])
  unfold Entry.refreshed
  split
  · next hready =>
    have hfresh := Entry.deadlineLawful_freshDeadline (e := { refreshedEntry p e with mark := none }) (m := m)
      hready rfl hperiod hfallback
    have hmark : { (refreshedEntry p e).freshDeadline m with mark := none } =
        ({ refreshedEntry p e with mark := none } : Entry).freshDeadline m := by
      unfold Entry.freshDeadline
      split <;> rfl
    rw [hmark]
    exact hfresh
  · next hready =>
    refine ⟨fun n h => (by cases h), fun hm => ?_, hperiod, hfallback⟩
    by_cases hf : (refreshedEntry p e).fallback.isSome = true
    · have hm' : (refreshedEntry p e).mark.isSome = true := by simpa [hf] using hm
      exact ⟨(he.mark hm').1, (he.mark hm').2.1, hf⟩
    · simp [hf] at hm

theorem State.DeadlinesLawful.commanded (h : s.Commanded t) (hs : s.DeadlinesLawful) : t.DeadlinesLawful := by
  cases h with
  | same same => exact hs.sameBlocks same
  | mode m => exact hs.changeMode m
  | load p i a args fits => exact hs.setEntry i (loadedEntry_deadlineLawful args _)
  | tune p i a => exact hs.setEntry i { hs i with }
  | fresh p i args occupied ungrouped => exact hs.setEntry i (refreshedEntry_deadlineLawful (hs i) args ungrouped)
  | retire i free => exact hs.setEntry i (Entry.deadlineLawful_vacant _)
  | preload i v => exact hs.setEntry i ((hs i).written _ _).2
  | forget i => exact hs.setEntry i ((hs i).written _ _).2
  | clearSticky i flags => exact hs.setEntry i ((hs i).written _ _).2
  | release i latched =>
    exact hs.setEntry i (Entry.deadlineLawful_freshDeadline rfl rfl (hs i).period (hs i).fallback)
  | disable p g notWaiting =>
    exact hs.congr (fun i => by simp) (s.endRound_workedTo g).judged.mode
  | _ => exact hs

/-- Settles O57: every write of an entry keeps its own deadline law; a tick takes a running countdown one lower, or at 0 lets
it expire in the same event. -/
theorem stepKeepsDeadlineLaw : Obligations.StepKeepsDeadlineLaw := fun _ _ hs h =>
  step_keeps State.DeadlinesLawful.sameBlocks State.DeadlinesLawful.event State.DeadlinesLawful.commanded h hs

end Sys2Proof.Machine
end

section
/-! SUPPORT. The groups: membership, the state after staging, and rounds abandoned one by one or all at once (R50 to R57). -/

namespace Sys2Proof.Machine

variable {s t : State} {g h : Fin 8} {i j : Fin 48}

/-! ## Members (R50) -/

theorem State.isMember_iff : s.isMember g i = true ↔ (s.entry i).state ≠ .vacant ∧ (s.entry i).group = some g := by
  simp [State.isMember, Entry.occupied]

/-- An entry is a member of one group at most. -/
theorem State.isMember_unique (hg : s.isMember g i = true) (hh : s.isMember h i = true) : g = h := by
  have := (State.isMember_iff.mp hg).2.symm.trans (State.isMember_iff.mp hh).2
  exact Option.some.inj this

theorem State.insertMember_perm (s : State) (i : Fin 48) : ∀ l, (s.insertMember i l).Perm (i :: l)
  | [] => .refl _
  | j :: js => by
    unfold State.insertMember
    split
    · exact .refl _
    · exact ((s.insertMember_perm i js).cons j).trans (.swap i j js)

theorem State.members_perm (s : State) (g : Fin 8) :
    (s.members g).Perm ((List.finRange 48).filter (s.isMember g)) := by
  unfold State.members
  induction (List.finRange 48).filter (s.isMember g) with
  | nil => exact .refl _
  | cons i l ih => exact (s.insertMember_perm i _).trans (ih.cons i)

@[simp] theorem State.mem_members : i ∈ s.members g ↔ s.isMember g i = true := by
  simp [(s.members_perm g).mem_iff]

theorem State.nodup_members (s : State) (g : Fin 8) : (s.members g).Nodup :=
  (s.members_perm g).nodup_iff.mpr ((List.nodup_finRange 48).filter _)

theorem State.allStaged_iff : s.allStaged g = true ↔ ∀ i, s.isMember g i = true → (s.stagedValue i).isSome = true := by
  simp [State.allStaged]

theorem State.isMember_congr (hentry : (t.entry i).state = .vacant ↔ (s.entry i).state = .vacant)
    (hgroup : (t.entry i).group = (s.entry i).group) : t.isMember g i = s.isMember g i := by
  rw [Bool.eq_iff_iff, State.isMember_iff, State.isMember_iff, hgroup, Ne, hentry]

theorem State.isMember_sameSetup (hsetup : (s.entry i).SameSetup (t.entry i)) : t.isMember g i = s.isMember g i :=
  State.isMember_congr hsetup.vacant hsetup.group

/-- Groups whose members are the same have as many of them. -/
theorem State.length_members_congr (hmem : ∀ i, t.isMember g i = s.isMember g i) :
    (t.members g).length = (s.members g).length := by
  rw [(t.members_perm g).length_eq, (s.members_perm g).length_eq, funext hmem]

/-- The members' order is read from their addresses alone. -/
theorem State.insertMember_congr (haddr : ∀ j, (t.entry j).address = (s.entry j).address) (i : Fin 48) :
    ∀ l, t.insertMember i l = s.insertMember i l
  | [] => rfl
  | j :: js => by simp only [State.insertMember, haddr, State.insertMember_congr haddr i js]

theorem State.members_congr (haddr : ∀ j, (t.entry j).address = (s.entry j).address)
    (hmem : ∀ i, t.isMember g i = s.isMember g i) : t.members g = s.members g := by
  have hinsert : t.insertMember = s.insertMember := by
    funext i l
    exact State.insertMember_congr haddr i l
  rw [State.members, State.members, hinsert, funext hmem]

theorem State.enabledGroup_eq_some {e : Entry} :
    s.enabledGroup e = some g ↔ e.group = some g ∧ (s.group g).enabled = true := by
  unfold State.enabledGroup
  cases he : e.group with
  | none => simp
  | some h =>
    by_cases hen : (s.group h).enabled = true
    · simp only [hen, if_true, Option.some.injEq]
      exact ⟨fun hh => ⟨hh, hh ▸ hen⟩, And.left⟩
    · simp only [hen]
      exact ⟨fun hh => by simp at hh, fun hh => absurd (Option.some.inj hh.1 ▸ hh.2) hen⟩

theorem State.enabledGroup_eq_none {e : Entry} :
    s.enabledGroup e = none ↔ ∀ g, e.group = some g → (s.group g).enabled = false := by
  rw [Option.eq_none_iff_forall_ne_some]
  refine forall_congr' fun g => ?_
  rw [Ne, State.enabledGroup_eq_some, not_and, Bool.not_eq_true]

/-! ## The state after staging (R52 to R54) -/

theorem State.stagedValue_setStaged (v : Option Int) :
    (s.setStaged i v).stagedValue j = if i = j then v else s.stagedValue j := by
  by_cases hij : i = j
  · subst hij; simp
  · simp [hij, State.stagedValue_setStaged_ne]

@[simp] theorem State.stagedValue_stage (s : State) (g : Fin 8) (i j : Fin 48) (v : Int) :
    (s.stage g i v).stagedValue j = if i = j then some v else s.stagedValue j := by
  rw [← State.stagedValue_setStaged]
  unfold State.stage
  dsimp only
  split
  · rfl
  · split <;> rfl
  · split <;> rfl

/-- In COMMIT-WAIT a staged value is only replaced (R54). -/
theorem State.stage_waiting (hg : (s.group g).state = .commitWait) (v : Int) :
    s.stage g i v = s.setStaged i (some v) := by
  simp [State.stage, hg]

/-- The write that leaves no member unstaged completes the round (R53). -/
theorem State.stage_completes (hg : (s.group g).state ≠ .commitWait) {v : Int}
    (hall : (s.setStaged i (some v)).allStaged g = true) :
    s.stage g i v = { (s.setStaged i (some v)).setGroup g { s.group g with
        state := .commitWait, remaining := none, mark := some s.accepted } with commitWait := s.commitWait ++ [g] } := by
  unfold State.stage
  cases hstate : (s.group g).state with
  | commitWait => exact absurd hstate hg
  | opened => simp [hstate, hall]
  | idle => simp [hstate, hall]

/-- A first write opens the round with the full timeout (R52). -/
theorem State.stage_opens (hg : (s.group g).state = .idle) {v : Int}
    (hall : (s.setStaged i (some v)).allStaged g = false) :
    s.stage g i v = (s.setStaged i (some v)).setGroup g
      { s.group g with state := .opened, remaining := some (s.group g).timeout } := by
  simp [State.stage, hg, hall]

/-- A further write continues it (R52). -/
theorem State.stage_continues (hg : (s.group g).state = .opened) {v : Int}
    (hall : (s.setStaged i (some v)).allStaged g = false) : s.stage g i v = s.setStaged i (some v) := by
  simp [State.stage, hg, hall]

/-! ## A round abandoned (R55) -/

@[simp] theorem State.stagedValue_createRecord (s : State) (d : Detail) (x : Subject) (a v : Word) (i : Fin 48) :
    (s.createRecord d x a v).stagedValue i = s.stagedValue i := by
  obtain ⟨_, _, _, _, h⟩ := s.createRecord_changes d x a v
  rw [h]; rfl

@[simp] theorem State.commitWait_createRecord (s : State) (d : Detail) (x : Subject) (a v : Word) :
    (s.createRecord d x a v).commitWait = s.commitWait := by
  obtain ⟨_, _, _, _, h⟩ := s.createRecord_changes d x a v
  rw [h]

@[simp] theorem State.isMember_createRecord (s : State) (d : Detail) (x : Subject) (a v : Word) (g : Fin 8)
    (i : Fin 48) : (s.createRecord d x a v).isMember g i = s.isMember g i := by
  simp [State.isMember]

/-- A group record with its round abandoned. -/
def Group.abandoned (x : Group) : Group := { x with state := .idle, remaining := none }

theorem State.group_abandon (s : State) (g h : Fin 8) (c : AbandonCause) :
    (s.abandon g c).group h = if g = h then (s.group h).abandoned else s.group h := by
  unfold State.abandon
  dsimp only
  rw [State.group_setCause, State.group_setGroup]
  split
  · next hgh => subst hgh; rfl
  · simp

@[simp] theorem State.stagedValue_abandon (s : State) (g : Fin 8) (c : AbandonCause) (i : Fin 48) :
    (s.abandon g c).stagedValue i = if s.isMember g i then none else s.stagedValue i := by
  simp [State.abandon]

@[simp] theorem State.commitWait_abandon (s : State) (g : Fin 8) (c : AbandonCause) :
    (s.abandon g c).commitWait = s.commitWait := by
  simp [State.abandon]

@[simp] theorem State.isMember_abandon (s : State) (g h : Fin 8) (c : AbandonCause) (i : Fin 48) :
    (s.abandon g c).isMember h i = s.isMember h i := by
  simp [State.isMember]

/-! ## Rounds abandoned in turn -/

/-- The groups whose round is to end, abandoned if they meet the test: a timeout's and a mode change's common form. -/
def State.abandonWhere (ends : Group → Bool) (c : AbandonCause) (s : State) (g : Fin 8) : State :=
  if ends (s.group g) then s.abandon g c else s

/-- A timeout that is due (R56). -/
def Group.due (x : Group) : Bool := decide (x.state = .opened) && decide (x.remaining = some 0)

/-- A round in progress (R57). -/
def Group.isOpen (x : Group) : Bool := decide (x.state = .opened)

theorem State.expireGroup_eq (s : State) (g : Fin 8) : s.expireGroup g = s.abandonWhere Group.due .timeout g := by
  simp [State.expireGroup, State.abandonWhere, Group.due]

theorem State.abandonIfOpen_eq (s : State) (g : Fin 8) : s.abandonIfOpen g = s.abandonWhere Group.isOpen .mode g := by
  simp [State.abandonIfOpen, State.abandonWhere, Group.isOpen]

theorem Group.due_abandoned (x : Group) : x.abandoned.due = false := rfl
theorem Group.isOpen_abandoned (x : Group) : x.abandoned.isOpen = false := rfl

section
variable {ends : Group → Bool} {c : AbandonCause}

theorem State.entry_abandonWhere (s : State) (g : Fin 8) (i : Fin 48) :
    (s.abandonWhere ends c g).entry i = s.entry i := by
  unfold State.abandonWhere
  split
  · exact State.entry_abandon s g c i
  · rfl

theorem State.commitWait_abandonWhere (s : State) (g : Fin 8) : (s.abandonWhere ends c g).commitWait = s.commitWait := by
  unfold State.abandonWhere
  split
  · exact State.commitWait_abandon s g c
  · rfl

theorem State.isMember_abandonWhere (s : State) (g h : Fin 8) (i : Fin 48) :
    (s.abandonWhere ends c g).isMember h i = s.isMember h i := by
  unfold State.isMember
  rw [State.entry_abandonWhere]

theorem State.group_abandonWhere (s : State) (g h : Fin 8) :
    (s.abandonWhere ends c g).group h =
      if g = h ∧ ends (s.group h) = true then (s.group h).abandoned else s.group h := by
  unfold State.abandonWhere
  by_cases hgh : g = h
  · subst hgh
    by_cases he : ends (s.group g) = true
    · simp [he, State.group_abandon]
    · simp [he]
  · by_cases he : ends (s.group g) = true
    · simp [he, hgh, State.group_abandon]
    · simp [he, hgh]

theorem State.stagedValue_abandonWhere (s : State) (g : Fin 8) (i : Fin 48) :
    (s.abandonWhere ends c g).stagedValue i =
      if ends (s.group g) = true ∧ s.isMember g i = true then none else s.stagedValue i := by
  unfold State.abandonWhere
  by_cases he : ends (s.group g) = true
  · simp [he]
  · simp [he]

theorem State.entry_foldl_abandonWhere (i : Fin 48) : ∀ (l : List (Fin 8)) (s : State),
    (l.foldl (State.abandonWhere ends c) s).entry i = s.entry i
  | [], _ => rfl
  | g :: l, s => by rw [List.foldl_cons, State.entry_foldl_abandonWhere i l, State.entry_abandonWhere]

theorem State.commitWait_foldl_abandonWhere : ∀ (l : List (Fin 8)) (s : State),
    (l.foldl (State.abandonWhere ends c) s).commitWait = s.commitWait
  | [], _ => rfl
  | g :: l, s => by rw [List.foldl_cons, State.commitWait_foldl_abandonWhere l, State.commitWait_abandonWhere]

variable (hends : ∀ x : Group, ends x.abandoned = false)
include hends

/-- Each listed group that meets the test is abandoned, and no other changes. -/
theorem State.group_foldl_abandonWhere (h : Fin 8) : ∀ (l : List (Fin 8)) (s : State),
    (l.foldl (State.abandonWhere ends c) s).group h =
      if h ∈ l ∧ ends (s.group h) = true then (s.group h).abandoned else s.group h
  | [], s => by simp
  | g :: l, s => by
    rw [List.foldl_cons, State.group_foldl_abandonWhere h l, State.group_abandonWhere]
    by_cases hgh : g = h
    · subst hgh
      by_cases he : ends (s.group g) = true
      · simp [he, hends]
      · simp [he]
    · simp [hgh, Ne.symm hgh]

/-- The staged values of the abandoned groups' members are discarded, and no other changes. -/
theorem State.stagedValue_foldl_abandonWhere (i : Fin 48) : ∀ (l : List (Fin 8)) (s : State),
    (l.foldl (State.abandonWhere ends c) s).stagedValue i =
      if ∃ g ∈ l, ends (s.group g) = true ∧ s.isMember g i = true then none else s.stagedValue i
  | [], s => by simp
  | g :: l, s => by
    rw [List.foldl_cons, State.stagedValue_foldl_abandonWhere i l, State.stagedValue_abandonWhere]
    simp only [State.isMember_abandonWhere, State.group_abandonWhere]
    by_cases hg : ends (s.group g) = true ∧ s.isMember g i = true
    · simp [hg]
    · have hsame : (∃ h ∈ l, ends (if g = h ∧ ends (s.group h) = true then (s.group h).abandoned else s.group h) = true ∧
          s.isMember h i = true) ↔ ∃ h ∈ g :: l, ends (s.group h) = true ∧ s.isMember h i = true := by
        constructor
        · rintro ⟨h, hl, he, hm⟩
          refine ⟨h, List.mem_cons_of_mem _ hl, ?_, hm⟩
          split at he
          · simp [hends] at he
          · exact he
        · rintro ⟨h, hl, he, hm⟩
          rcases List.mem_cons.mp hl with rfl | hl
          · exact absurd ⟨he, hm⟩ hg
          · have hgh : g ≠ h := fun hgh => hg (hgh ▸ ⟨he, hm⟩)
            exact ⟨h, hl, by simpa [hgh] using he, hm⟩
      simp only [hsame, if_neg hg]

end

/-! ## The groups after a tick, a mode change and a disable -/

@[simp] theorem State.group_expireEntry (s : State) (i : Fin 48) (g : Fin 8) : (s.expireEntry i).group g = s.group g := by
  unfold State.expireEntry
  dsimp only
  split
  · simp
  · rfl

@[simp] theorem State.stagedValue_expireEntry (s : State) (i j : Fin 48) :
    (s.expireEntry i).stagedValue j = s.stagedValue j := by
  unfold State.expireEntry
  dsimp only
  split
  · simp
  · rfl

@[simp] theorem State.commitWait_expireEntry (s : State) (i : Fin 48) : (s.expireEntry i).commitWait = s.commitWait := by
  unfold State.expireEntry
  dsimp only
  split
  · simp
  · rfl

/-- A part of the state that no entry's expiry reaches stands through all of a tick's. -/
theorem State.foldl_expireEntry_keeps {α : Type} (f : State → α) (hf : ∀ (s : State) i, f (s.expireEntry i) = f s) :
    ∀ (l : List (Fin 48)) (s : State), f (l.foldl (fun t i => t.expireEntry i) s) = f s
  | [], _ => rfl
  | i :: l, s => by rw [List.foldl_cons, State.foldl_expireEntry_keeps f hf l, hf]

@[simp] theorem State.group_tickCountdowns (s : State) (g : Fin 8) :
    s.tickCountdowns.group g = (s.group g).tickDown := by
  simp [State.group, State.tickCountdowns]

/-- After the countdowns and the entries' expiries of a tick the due rounds are abandoned. -/
def State.afterExpiries (s : State) : State := (List.finRange 48).foldl (fun t i => t.expireEntry i) s.tickCountdowns

theorem State.tickEvent_eq (s : State) :
    s.tickEvent = (List.finRange 8).foldl (State.abandonWhere Group.due .timeout) s.afterExpiries := by
  unfold State.tickEvent State.afterExpiries
  simp only [State.expireGroup_eq]

theorem State.abandonOpen_eq (s : State) :
    s.abandonOpen = (List.finRange 8).foldl (State.abandonWhere Group.isOpen .mode) s := by
  unfold State.abandonOpen
  simp only [State.abandonIfOpen_eq]

@[simp] theorem State.group_afterExpiries (s : State) (g : Fin 8) : s.afterExpiries.group g = (s.group g).tickDown := by
  unfold State.afterExpiries
  rw [State.foldl_expireEntry_keeps (fun s => s.group g) (fun s i => s.group_expireEntry i g),
    State.group_tickCountdowns]

@[simp] theorem State.stagedValue_afterExpiries (s : State) (i : Fin 48) :
    s.afterExpiries.stagedValue i = s.stagedValue i :=
  State.foldl_expireEntry_keeps (fun s => s.stagedValue i) (fun s k => s.stagedValue_expireEntry k i) _ _

@[simp] theorem State.commitWait_afterExpiries (s : State) : s.afterExpiries.commitWait = s.commitWait :=
  State.foldl_expireEntry_keeps State.commitWait (fun s k => s.commitWait_expireEntry k) _ _

theorem State.afterExpiries_workedTo (s : State) : s.tickCountdowns.WorkedTo s.afterExpiries :=
  State.foldl_worked _ (fun s i => s.expireEntry_workedTo i) _ _

theorem State.sameSetup_afterExpiries (s : State) (i : Fin 48) :
    (s.entry i).SameSetup (s.afterExpiries.entry i) := by
  refine .trans ?_ (s.afterExpiries_workedTo.sameSetup i)
  rw [State.entry_tickCountdowns]
  exact Entry.sameSetup_tickDown _ _

@[simp] theorem State.isMember_afterExpiries (s : State) (g : Fin 8) (i : Fin 48) :
    s.afterExpiries.isMember g i = s.isMember g i :=
  State.isMember_sameSetup (s.sameSetup_afterExpiries i)

/-- A group after a tick: its countdown taken down, and its round abandoned where that reached 0 (R56). -/
theorem State.group_tickEvent (s : State) (g : Fin 8) :
    s.tickEvent.group g = if (s.group g).tickDown.due = true then (s.group g).tickDown.abandoned
      else (s.group g).tickDown := by
  rw [State.tickEvent_eq, State.group_foldl_abandonWhere Group.due_abandoned, State.group_afterExpiries]
  simp

theorem State.stagedValue_tickEvent (s : State) (i : Fin 48) :
    s.tickEvent.stagedValue i =
      if ∃ g, (s.group g).tickDown.due = true ∧ s.isMember g i = true then none else s.stagedValue i := by
  rw [State.tickEvent_eq, State.stagedValue_foldl_abandonWhere Group.due_abandoned]
  simp

theorem State.commitWait_tickEvent (s : State) : s.tickEvent.commitWait = s.commitWait := by
  rw [State.tickEvent_eq, State.commitWait_foldl_abandonWhere, State.commitWait_afterExpiries]

theorem State.group_abandonOpen (s : State) (g : Fin 8) :
    s.abandonOpen.group g = if (s.group g).state = .opened then (s.group g).abandoned else s.group g := by
  rw [State.abandonOpen_eq, State.group_foldl_abandonWhere Group.isOpen_abandoned]
  simp [Group.isOpen]

theorem State.stagedValue_abandonOpen (s : State) (i : Fin 48) :
    s.abandonOpen.stagedValue i =
      if ∃ g, (s.group g).state = .opened ∧ s.isMember g i = true then none else s.stagedValue i := by
  rw [State.abandonOpen_eq, State.stagedValue_foldl_abandonWhere Group.isOpen_abandoned]
  simp [Group.isOpen]

theorem State.commitWait_abandonOpen (s : State) : s.abandonOpen.commitWait = s.commitWait := by
  rw [State.abandonOpen_eq, State.commitWait_foldl_abandonWhere]

/-! ## The groups after a commit start (R61) -/

theorem State.group_reportCommit (s : State) (g h : Fin 8) (n : Nat) : (s.reportCommit g n).group h = s.group h := by
  unfold State.reportCommit
  split <;> simp

theorem State.stagedValue_reportCommit (s : State) (g : Fin 8) (n : Nat) (i : Fin 48) :
    (s.reportCommit g n).stagedValue i = s.stagedValue i := by
  unfold State.reportCommit
  split <;> simp

theorem State.commitWait_reportCommit (s : State) (g : Fin 8) (n : Nat) :
    (s.reportCommit g n).commitWait = s.commitWait := by
  unfold State.reportCommit
  split <;> simp

theorem State.isMember_mapEntries_commitReference (s : State) (g h : Fin 8) (i : Fin 48) :
    (s.mapEntries (s.commitReference g)).isMember h i = s.isMember h i :=
  State.isMember_sameSetup (by rw [State.entry_mapEntries]; exact s.sameSetup_commitReference g i _)

theorem State.group_beginCommit (s : State) (g h : Fin 8) :
    (s.beginCommit g).group h =
      if g = h then { s.group h with state := .idle, remaining := none, mark := none } else s.group h := by
  unfold State.beginCommit
  dsimp only
  rw [State.group_reportCommit]
  refine (State.group_setGroup _ g h _).trans ?_
  split
  · next hgh => subst hgh; rfl
  · rfl

theorem State.stagedValue_beginCommit (s : State) (g : Fin 8) (i : Fin 48) :
    (s.beginCommit g).stagedValue i = if s.isMember g i then none else s.stagedValue i := by
  unfold State.beginCommit
  dsimp only
  rw [State.stagedValue_reportCommit]
  refine (State.stagedValue_clearStaged _ i g).trans ?_
  rw [State.isMember_mapEntries_commitReference]
  rfl

theorem State.commitWait_beginCommit (s : State) (g : Fin 8) :
    (s.beginCommit g).commitWait = s.commitWait.filter fun h => decide (h ≠ g) := by
  unfold State.beginCommit
  dsimp only
  rw [State.commitWait_reportCommit]
  rfl

theorem State.group_issueCommitWrite (s : State) (g : Fin 8) : s.issueCommitWrite.group g = s.group g := by
  rw [State.issueCommitWrite_frame]; rfl

theorem State.stagedValue_issueCommitWrite (s : State) (i : Fin 48) :
    s.issueCommitWrite.stagedValue i = s.stagedValue i := by
  rw [State.issueCommitWrite_frame]; rfl

theorem State.commitWait_issueCommitWrite (s : State) : s.issueCommitWrite.commitWait = s.commitWait := by
  rw [State.issueCommitWrite_frame]

end Sys2Proof.Machine
end

section
/-! SUPPORT. Proofs for the group law (R49 to R53). -/

namespace Sys2Proof.Machine

variable {s t : State} {g : Fin 8} {i : Fin 48}

/-! ## Membership of enabled groups -/

/-- The law stands while the groups, the list and the staging stay, with the members of every enabled group. -/
theorem State.GroupsLawful.remembered (hs : s.GroupsLawful) (hgroup : ∀ g, t.group g = s.group g)
    (hwait : t.commitWait = s.commitWait) (hstaged : ∀ i, t.stagedValue i = s.stagedValue i)
    (hmem : ∀ g, (s.group g).enabled = true → ∀ i, t.isMember g i = s.isMember g i) : t.GroupsLawful := by
  have hlive : ∀ g, (s.group g).state ≠ .idle → ∀ i, t.isMember g i = s.isMember g i :=
    fun g hg => hmem g (hs.enabled g hg)
  refine ⟨?_, ?_, hwait ▸ hs.nodup, ?_, ?_, ?_, ?_, fun g hg => ?_, fun i hi => ?_, fun g hg => ?_, fun g hg => ?_,
    fun g hg i hi => ?_⟩
  · simpa only [hgroup] using hs.timeout
  · simpa only [hgroup] using hs.running
  · simpa only [hgroup, hwait] using hs.listed
  · simpa only [hgroup] using hs.enabled
  · simpa only [hgroup] using hs.countdown
  · simpa only [hgroup] using hs.marked
  · rw [hgroup] at hg
    rw [State.length_members_congr (hmem g hg)]
    exact hs.size g hg
  · rw [hstaged] at hi
    obtain ⟨g, hg, hstate⟩ := hs.staging i hi
    exact ⟨g, by rwa [hlive g hstate], by rwa [hgroup]⟩
  · rw [hgroup] at hg
    obtain ⟨i, hi, hv⟩ := hs.begun g hg
    exact ⟨i, by rwa [hlive g (by simp [hg])], by rwa [hstaged]⟩
  · rw [hgroup] at hg
    obtain ⟨i, hi, hv⟩ := hs.unfinished g hg
    exact ⟨i, by rwa [hlive g (by simp [hg])], by rwa [hstaged]⟩
  · rw [hgroup] at hg
    rw [hlive g (by simp [hg])] at hi
    rw [hstaged]
    exact hs.complete g hg i hi

/-- The law stands through an event that reaches the entries only, and leaves them their groups. -/
theorem State.GroupsLawful.congr (hs : s.GroupsLawful) (hgroup : ∀ g, t.group g = s.group g)
    (hwait : t.commitWait = s.commitWait) (hstaged : ∀ i, t.stagedValue i = s.stagedValue i)
    (hsetup : ∀ i, (s.entry i).SameSetup (t.entry i)) : t.GroupsLawful :=
  hs.remembered hgroup hwait hstaged fun _ _ i => State.isMember_sameSetup (hsetup i)

theorem State.GroupsLawful.sameBlocks (h : s.SameBlocks t) (hs : s.GroupsLawful) : t.GroupsLawful := by
  rw [h]
  exact hs.congr (fun _ => rfl) rfl (fun _ => rfl) fun _ => .refl _

/-- An entry replaced by one that is a member of the same enabled groups. -/
theorem State.GroupsLawful.setEntry (hs : s.GroupsLawful) (i : Fin 48) {x : Entry}
    (hx : ∀ g, (s.group g).enabled = true →
      ((x.state ≠ .vacant ∧ x.group = some g) ↔ ((s.entry i).state ≠ .vacant ∧ (s.entry i).group = some g))) :
    (s.setEntry i x).GroupsLawful := by
  refine hs.remembered (fun _ => rfl) rfl (fun _ => rfl) fun g hg j => ?_
  rw [Bool.eq_iff_iff, State.isMember_iff, State.isMember_iff, State.entry_setEntry]
  by_cases hij : i = j
  · subst hij; simpa using hx g hg
  · simp [hij]

theorem State.GroupsLawful.setEntry_sameSetup (hs : s.GroupsLawful) (i : Fin 48) {x : Entry}
    (hx : (s.entry i).SameSetup x) : (s.setEntry i x).GroupsLawful :=
  hs.congr (fun _ => rfl) rfl (fun _ => rfl) (State.sameSetup_setEntry i hx)

/-! ## Staging -/

/-- A member of an enabled group takes a staged value, and its group moves on: to OPEN while a member is unstaged, into the
list when none is. -/
theorem State.GroupsLawful.moved (hs : s.GroupsLawful) (hi : s.isMember g i = true)
    (hen : (s.group g).enabled = true) (v : Int) (hentry : ∀ j, t.entry j = s.entry j)
    (hother : ∀ h, g ≠ h → t.group h = s.group h)
    (hvalue : ∀ j, t.stagedValue j = if i = j then some v else s.stagedValue j)
    (hfields : (t.group g).timeout = (s.group g).timeout ∧ (t.group g).enabled = (s.group g).enabled)
    (hlive : (t.group g).state ≠ .idle)
    (hrunning : ∀ n, (t.group g).remaining = some n → 1 ≤ n ∧ n ≤ 65535)
    (hcountdown : (t.group g).remaining.isSome = true ↔ (t.group g).state = .opened)
    (hmarked : (t.group g).mark.isSome = true ↔ (t.group g).state = .commitWait)
    (hnodup : t.commitWait.Nodup)
    (hlisted : ∀ h, h ∈ t.commitWait ↔ if g = h then (t.group g).state = .commitWait else h ∈ s.commitWait)
    (hopened : (t.group g).state = .opened → t.allStaged g = false)
    (hwaiting : (t.group g).state = .commitWait → t.allStaged g = true) : t.GroupsLawful := by
  have hmem (h : Fin 8) (j : Fin 48) : t.isMember h j = s.isMember h j :=
    State.isMember_congr (by rw [hentry]) (by rw [hentry])
  have hkeep (h : Fin 8) (hh : g ≠ h) (j : Fin 48) (hj : s.isMember h j = true) : t.stagedValue j = s.stagedValue j := by
    rw [hvalue, if_neg]
    rintro rfl
    exact hh (State.isMember_unique hi hj)
  -- Each clause holds of `g` by what it moved to, and of every other group as it did.
  refine ⟨fun h => ?_, fun h n hn => ?_, hnodup, fun h => ?_, fun h hh => ?_, fun h => ?_, fun h => ?_, fun h hh => ?_,
    fun j hj => ?_, fun h hh => ?_, fun h hh => ?_, fun h hh j hj => ?_⟩
  · rcases Decidable.em (g = h) with rfl | hgh
    · rw [hfields.1]; exact hs.timeout g
    · rw [hother h hgh]; exact hs.timeout h
  · rcases Decidable.em (g = h) with rfl | hgh
    · exact hrunning n hn
    · rw [hother h hgh] at hn; exact hs.running h n hn
  · rw [hlisted]
    split
    · next hgh => rw [hgh]
    · next hgh => rw [hother h hgh]; exact hs.listed h
  · rcases Decidable.em (g = h) with rfl | hgh
    · rw [hfields.2]; exact hen
    · rw [hother h hgh] at hh ⊢; exact hs.enabled h hh
  · rcases Decidable.em (g = h) with rfl | hgh
    · exact hcountdown
    · rw [hother h hgh]; exact hs.countdown h
  · rcases Decidable.em (g = h) with rfl | hgh
    · exact hmarked
    · rw [hother h hgh]; exact hs.marked h
  · rw [State.length_members_congr (hmem h)]
    rcases Decidable.em (g = h) with rfl | hgh
    · exact hs.size g hen
    · rw [hother h hgh] at hh; exact hs.size h hh
  · rw [hvalue] at hj
    split at hj
    · next hij => subst hij; exact ⟨g, by rwa [hmem], hlive⟩
    · obtain ⟨h, hh, hstate⟩ := hs.staging j hj
      refine ⟨h, by rwa [hmem], ?_⟩
      rcases Decidable.em (g = h) with rfl | hgh
      · exact hlive
      · rwa [hother h hgh]
  · rcases Decidable.em (g = h) with rfl | hgh
    · exact ⟨i, by rwa [hmem], by simp [hvalue]⟩
    · rw [hother h hgh] at hh
      obtain ⟨j, hj, hv⟩ := hs.begun h hh
      exact ⟨j, by rwa [hmem], by rwa [hkeep h hgh j hj]⟩
  · rcases Decidable.em (g = h) with rfl | hgh
    · have hall := hopened hh
      rw [← Bool.not_eq_true, State.allStaged_iff] at hall
      obtain ⟨j, hall⟩ := Classical.not_forall.mp hall
      obtain ⟨hj, hv⟩ := Classical.not_imp.mp hall
      exact ⟨j, hj, Option.not_isSome_iff_eq_none.mp hv⟩
    · rw [hother h hgh] at hh
      obtain ⟨j, hj, hv⟩ := hs.unfinished h hh
      exact ⟨j, by rwa [hmem], by rwa [hkeep h hgh j hj]⟩
  · rcases Decidable.em (g = h) with rfl | hgh
    · exact State.allStaged_iff.mp (hwaiting hh) j hj
    · rw [hother h hgh] at hh
      rw [hmem] at hj
      rw [hkeep h hgh j hj]
      exact hs.complete h hh j hj

/-- A staged value of a waiting member replaced by another (R54). -/
theorem State.GroupsLawful.restaged (hs : s.GroupsLawful) (hi : s.isMember g i = true)
    (hg : (s.group g).state = .commitWait) (v : Int) : (s.setStaged i (some v)).GroupsLawful := by
  have hen := hs.enabled g (by simp [hg])
  refine hs.moved hi hen v (fun _ => rfl) (fun _ _ => rfl) (fun j => State.stagedValue_setStaged _) ⟨rfl, rfl⟩ ?_
    (hs.running g) (hs.countdown g) (hs.marked g) hs.nodup (fun h => ?_) (fun h => ?_) fun _ => ?_
  · simp [hg]
  · split
    · next hgh => subst hgh; exact hs.listed g
    · exact Iff.rfl
  · rw [State.group_setStaged, hg] at h; cases h
  · rw [State.allStaged_iff]
    intro j hj
    rw [State.stagedValue_setStaged]
    split
    · rfl
    · exact hs.complete g hg j hj

/-- Whether every member is staged is read from the entries and the staged values. -/
theorem State.allStaged_congr (hmem : ∀ j, t.isMember g j = s.isMember g j)
    (hvalue : ∀ j, t.stagedValue j = s.stagedValue j) : t.allStaged g = s.allStaged g := by
  rw [Bool.eq_iff_iff, State.allStaged_iff, State.allStaged_iff]
  simp only [hmem, hvalue]

/-- The write that leaves no member unstaged puts its group at the list's tail (R53). -/
theorem State.GroupsLawful.completed (hs : s.GroupsLawful) (hi : s.isMember g i = true)
    (hen : (s.group g).enabled = true) (hg : (s.group g).state ≠ .commitWait) (v : Int)
    (hall : (s.setStaged i (some v)).allStaged g = true) : (s.stage g i v).GroupsLawful := by
  have hnew : (s.stage g i v).group g =
      { s.group g with state := .commitWait, remaining := none, mark := some s.accepted } := by
    rw [State.stage_completes hg hall]; exact State.group_setGroup_self _ g _
  have hlist : (s.stage g i v).commitWait = s.commitWait ++ [g] := by rw [State.stage_completes hg hall]
  have hnot : g ∉ s.commitWait := fun hm => hg ((hs.listed g).mp hm)
  refine hs.moved hi hen v (fun j => State.entry_stage s g i j v) (fun h hgh => ?_)
    (fun j => State.stagedValue_stage s g i j v) ?_ ?_ ?_ ?_ ?_ ?_ (fun h => ?_) ?_ ?_
  · rw [State.stage_completes hg hall]; exact State.group_setGroup_ne _ g h _ hgh
  · rw [hnew]; exact ⟨rfl, rfl⟩
  · rw [hnew]; simp
  · rw [hnew]; simp
  · rw [hnew]; simp
  · rw [hnew]; simp
  · rw [hlist]
    exact List.nodup_append.mpr ⟨hs.nodup, List.pairwise_singleton _ g, fun a ha b hb hab =>
      hnot (List.mem_singleton.mp hb ▸ hab ▸ ha)⟩
  · rw [hnew, hlist]
    split
    · next hgh => simp [hgh]
    · next hgh => simp [Ne.symm hgh]
  · rw [hnew]; simp
  · intro _
    rw [← hall]
    exact State.allStaged_congr (fun j => State.isMember_congr (by simp) (by simp))
      fun j => (State.stagedValue_stage s g i j v).trans (State.stagedValue_setStaged _).symm

/-- A first write that leaves a member unstaged opens the round with the full timeout (R52). -/
theorem State.GroupsLawful.opened (hs : s.GroupsLawful) (hi : s.isMember g i = true)
    (hen : (s.group g).enabled = true) (hg : (s.group g).state = .idle) (v : Int)
    (hall : (s.setStaged i (some v)).allStaged g = false) : (s.stage g i v).GroupsLawful := by
  have hnew : (s.stage g i v).group g =
      { s.group g with state := .opened, remaining := some (s.group g).timeout } := by
    rw [State.stage_opens hg hall]; exact State.group_setGroup_self _ g _
  have hlist : (s.stage g i v).commitWait = s.commitWait := by rw [State.stage_opens hg hall]; rfl
  have hmark : (s.group g).mark.isSome = false := by
    rw [← Bool.not_eq_true, hs.marked g, hg]; simp
  refine hs.moved hi hen v (fun j => State.entry_stage s g i j v) (fun h hgh => ?_)
    (fun j => State.stagedValue_stage s g i j v) ?_ ?_ (fun n hn => ?_) ?_ ?_ (hlist ▸ hs.nodup) (fun h => ?_)
    (fun _ => ?_) fun h => ?_
  · rw [State.stage_opens hg hall]; exact State.group_setGroup_ne _ g h _ hgh
  · rw [hnew]; exact ⟨rfl, rfl⟩
  · rw [hnew]; simp
  · rw [hnew] at hn
    cases hn
    exact hs.timeout g
  · rw [hnew]; simp
  · rw [hnew]; simp [hmark]
  · rw [hnew, hlist]
    split
    · next hgh => subst hgh; simp [hs.listed g, hg]
    · exact Iff.rfl
  · rw [← hall]
    exact State.allStaged_congr (fun j => State.isMember_congr (by simp) (by simp))
      fun j => (State.stagedValue_stage s g i j v).trans (State.stagedValue_setStaged _).symm
  · rw [hnew] at h; cases h

/-- An admitted write to a member of an enabled group keeps the law (R52 to R54). -/
theorem State.GroupsLawful.stage (hs : s.GroupsLawful) (hi : s.isMember g i = true)
    (hen : (s.group g).enabled = true) (v : Int) : (s.stage g i v).GroupsLawful := by
  have hvalue := State.stagedValue_stage s g i
  cases hstate : (s.group g).state with
  | commitWait =>
    rw [State.stage_waiting hstate]
    exact hs.restaged hi hstate v
  | opened =>
    have hnot : (s.group g).state ≠ .commitWait := by simp [hstate]
    cases hall : (s.setStaged i (some v)).allStaged g with
    | true => exact hs.completed hi hen hnot v hall
    | false =>
      rw [State.stage_continues hstate hall]
      refine hs.moved hi hen v (fun _ => rfl) (fun _ _ => rfl) (fun j => State.stagedValue_setStaged _) ⟨rfl, rfl⟩ ?_
        (hs.running g) (hs.countdown g) (hs.marked g) hs.nodup (fun h => ?_) (fun _ => hall) fun h => ?_
      · simp [hstate]
      · split
        · next hgh => subst hgh; exact hs.listed g
        · exact Iff.rfl
      · exact absurd h hnot
  | idle =>
    have hnot : (s.group g).state ≠ .commitWait := by simp [hstate]
    cases hall : (s.setStaged i (some v)).allStaged g with
    | true => exact hs.completed hi hen hnot v hall
    | false => exact hs.opened hi hen hstate v hall

/-! ## Rounds ended -/

/-- A group record whose round is over, abandoned or committed. -/
def Group.over (x : Group) : Group := { x with state := .idle, remaining := none, mark := none }

/-- An OPEN round carries no order mark, so that abandoning it leaves none. -/
theorem State.GroupsLawful.abandoned_eq_over (hs : s.GroupsLawful) (hg : (s.group g).state = .opened) :
    (s.group g).abandoned = (s.group g).over := by
  have hmark : (s.group g).mark = none := by
    rw [← Option.not_isSome_iff_eq_none, hs.marked g, hg]
    simp
  simp [Group.abandoned, Group.over, hmark]

/-- Rounds that end: their groups are IDLE, out of the list and with nothing staged, and the others keep their countdowns
within bounds. -/
theorem State.GroupsLawful.ended (hs : s.GroupsLawful) (ends : Fin 8 → Prop)
    (hmem : ∀ g i, t.isMember g i = s.isMember g i) (hnodup : t.commitWait.Nodup)
    (hlisted : ∀ g, g ∈ t.commitWait ↔ g ∈ s.commitWait ∧ ¬ ends g)
    (hended : ∀ g, ends g → t.group g = (s.group g).over)
    (hkept : ∀ g, ¬ ends g → ∃ r, t.group g = { s.group g with remaining := r } ∧
      r.isSome = (s.group g).remaining.isSome ∧ ∀ n, r = some n → 1 ≤ n ∧ n ≤ 65535)
    (hcleared : ∀ i, (∃ g, ends g ∧ s.isMember g i = true) → t.stagedValue i = none)
    (hstaged : ∀ i, ¬ (∃ g, ends g ∧ s.isMember g i = true) → t.stagedValue i = s.stagedValue i) :
    t.GroupsLawful := by
  have hstay : ∀ g, ¬ ends g → (t.group g).state = (s.group g).state := fun g hg => by
    obtain ⟨r, hr, -⟩ := hkept g hg
    rw [hr]
  have hlive : ∀ g, (t.group g).state ≠ .idle → ¬ ends g ∧ (t.group g).state = (s.group g).state := fun g hg =>
    have hne : ¬ ends g := fun he => hg (by rw [hended g he]; rfl)
    ⟨hne, hstay g hne⟩
  have hvalue : ∀ g, ¬ ends g → ∀ i, s.isMember g i = true → t.stagedValue i = s.stagedValue i := by
    intro g hg i hi
    refine hstaged i ?_
    rintro ⟨h, hh, hm⟩
    exact hg (State.isMember_unique hm hi ▸ hh)
  have hsame : ∀ g, (t.group g).timeout = (s.group g).timeout ∧ (t.group g).enabled = (s.group g).enabled := by
    intro g
    by_cases hg : ends g
    · rw [hended g hg]; exact ⟨rfl, rfl⟩
    · obtain ⟨r, hr, -⟩ := hkept g hg
      rw [hr]; exact ⟨rfl, rfl⟩
  refine ⟨fun g => ?_, fun g n hn => ?_, hnodup, fun g => ?_, fun g hg => ?_, fun g => ?_, fun g => ?_,
    fun g hg => ?_, fun i hi => ?_, fun g hg => ?_, fun g hg => ?_, fun g hg i hi => ?_⟩
  · rw [(hsame g).1]; exact hs.timeout g
  · by_cases hg : ends g
    · rw [hended g hg] at hn; cases hn
    · obtain ⟨r, hr, -, hbound⟩ := hkept g hg
      rw [hr] at hn
      exact hbound n hn
  · rw [hlisted]
    by_cases hg : ends g
    · simp [hg, hended g hg, Group.over]
    · simp [hg, hstay g hg, hs.listed g]
  · rw [(hsame g).2]
    exact hs.enabled g ((hlive g hg).2 ▸ hg)
  · by_cases hg : ends g
    · simp [hended g hg, Group.over]
    · obtain ⟨r, hr, hsome, -⟩ := hkept g hg
      rw [hstay g hg, ← hs.countdown g, ← hsome, hr]
  · by_cases hg : ends g
    · simp [hended g hg, Group.over]
    · obtain ⟨r, hr, -⟩ := hkept g hg
      rw [hr]
      exact hs.marked g
  · rw [(hsame g).2] at hg
    rw [State.length_members_congr (hmem g)]
    exact hs.size g hg
  · by_cases hi' : ∃ g, ends g ∧ s.isMember g i = true
    · rw [hcleared i hi'] at hi; cases hi
    · rw [hstaged i hi'] at hi
      obtain ⟨g, hg, hlive⟩ := hs.staging i hi
      refine ⟨g, by rwa [hmem], ?_⟩
      rw [hstay g fun he => hi' ⟨g, he, hg⟩]
      exact hlive
  · obtain ⟨hne, hst⟩ := hlive g (by simp [hg])
    obtain ⟨i, hi, hv⟩ := hs.begun g (hst ▸ hg)
    exact ⟨i, by rwa [hmem], by rwa [hvalue g hne i hi]⟩
  · obtain ⟨hne, hst⟩ := hlive g (by simp [hg])
    obtain ⟨i, hi, hv⟩ := hs.unfinished g (hst ▸ hg)
    exact ⟨i, by rwa [hmem], by rwa [hvalue g hne i hi]⟩
  · obtain ⟨hne, hst⟩ := hlive g (by simp [hg])
    rw [hmem] at hi
    rw [hvalue g hne i hi]
    exact hs.complete g (hst ▸ hg) i hi

/-- OPEN groups stand outside the list. -/
theorem State.GroupsLawful.not_mem_of_opened (hs : s.GroupsLawful) (hg : (s.group g).state = .opened) :
    g ∉ s.commitWait := fun hm => by
  have := (hs.listed g).mp hm
  rw [hg] at this; cases this

theorem State.GroupsLawful.abandon (hs : s.GroupsLawful) (hg : (s.group g).state = .opened) (c : AbandonCause) :
    (s.abandon g c).GroupsLawful := by
  refine hs.ended (fun h => h = g) (fun h i => by simp) (by simpa using hs.nodup) (fun h => ?_) ?_ (fun h hh => ?_)
    (fun i hi => ?_) fun i hi => ?_
  · rw [State.commitWait_abandon, iff_self_and]
    rintro hm rfl
    exact hs.not_mem_of_opened hg hm
  · rintro h rfl
    rw [State.group_abandon, if_pos rfl, hs.abandoned_eq_over hg]
  · exact ⟨(s.group h).remaining, by simp [State.group_abandon, Ne.symm hh], rfl, hs.running h⟩
  · obtain ⟨h, rfl, hm⟩ := hi
    simp [hm]
  · have hm : ¬ s.isMember g i = true := fun hm => hi ⟨g, rfl, hm⟩
    simp [hm]

/-- The mode change to BYPASS ends every round (R57). -/
theorem State.GroupsLawful.abandonOpen (hs : s.GroupsLawful) : s.abandonOpen.GroupsLawful := by
  refine hs.ended (fun g => (s.group g).state = .opened) (fun g i => ?_) ?_ (fun g => ?_) (fun g hg => ?_)
    (fun g hg => ?_) (fun i hi => ?_) fun i hi => ?_
  · simp [State.isMember]
  · rw [State.commitWait_abandonOpen]; exact hs.nodup
  · rw [State.commitWait_abandonOpen, iff_self_and]
    exact fun hm hg => hs.not_mem_of_opened hg hm
  · rw [State.group_abandonOpen, if_pos hg, hs.abandoned_eq_over hg]
  · exact ⟨(s.group g).remaining, by rw [State.group_abandonOpen, if_neg hg], rfl, hs.running g⟩
  · rw [State.stagedValue_abandonOpen, if_pos hi]
  · rw [State.stagedValue_abandonOpen, if_neg hi]

/-- A group's timeout falls due in a tick exactly where its countdown stood at 1 (R56). -/
theorem State.GroupsLawful.due_tickDown (hs : s.GroupsLawful) (g : Fin 8) :
    (s.group g).tickDown.due = true ↔ (s.group g).remaining = some 1 := by
  unfold Group.tickDown
  split
  · next hstate =>
    simp only [Group.due, hstate, Bool.and_eq_true, decide_eq_true_eq, true_and, countDown, Option.map_eq_some_iff]
    constructor
    · rintro ⟨n, hn, h0⟩
      have := hs.running g n hn
      rw [hn]; congr; omega
    · intro h1
      exact ⟨1, h1, rfl⟩
  · next hstate =>
    simp only [Group.due, hstate, decide_false, Bool.false_and, Bool.false_eq_true, false_iff]
    exact fun h => hstate ((hs.countdown g).mp (by simp [h]))

theorem State.isMember_tickEvent (s : State) (g : Fin 8) (i : Fin 48) : s.tickEvent.isMember g i = s.isMember g i := by
  refine State.isMember_sameSetup (.trans ?_ (s.tickEvent_workedTo.sameSetup i))
  rw [State.entry_tickCountdowns]
  exact Entry.sameSetup_tickDown _ _

theorem State.GroupsLawful.tickEvent (hs : s.GroupsLawful) : s.tickEvent.GroupsLawful := by
  have hopen (g : Fin 8) (hg : (s.group g).tickDown.due = true) : (s.group g).state = .opened :=
    (hs.countdown g).mp (by simp [(hs.due_tickDown g).mp hg])
  refine hs.ended (fun g => (s.group g).tickDown.due = true) s.isMember_tickEvent ?_ (fun g => ?_)
    (fun g hg => ?_) (fun g hg => ?_) (fun i hi => ?_) fun i hi => ?_
  · rw [State.commitWait_tickEvent]; exact hs.nodup
  · rw [State.commitWait_tickEvent, iff_self_and]
    exact fun hm hg => hs.not_mem_of_opened (hopen g hg) hm
  · rw [State.group_tickEvent, if_pos hg, ← hs.abandoned_eq_over (hopen g hg)]
    simp [Group.tickDown, Group.abandoned, hopen g hg]
  · rw [State.group_tickEvent, if_neg hg]
    unfold Group.tickDown
    split
    · refine ⟨_, rfl, by simp [countDown], fun n hn => ?_⟩
      obtain ⟨k, hk, rfl⟩ := Option.map_eq_some_iff.mp hn
      have hne : k ≠ 1 := fun h1 => hg ((hs.due_tickDown g).mpr (h1 ▸ hk))
      have := hs.running g k hk
      omega
    · exact ⟨_, rfl, rfl, hs.running g⟩
  · rw [State.stagedValue_tickEvent, if_pos hi]
  · rw [State.stagedValue_tickEvent, if_neg hi]

/-- A commit start takes its group out of the list with its staging empty (R61). -/
theorem State.GroupsLawful.beginCommit (hs : s.GroupsLawful) (g : Fin 8) : (s.beginCommit g).GroupsLawful := by
  refine hs.ended (fun h => h = g) (fun h i => ?_) ?_ (fun h => ?_) ?_ (fun h hh => ?_) (fun i hi => ?_) fun i hi => ?_
  · exact State.isMember_sameSetup (by rw [State.entry_beginCommit]; exact s.sameSetup_commitReference g i _)
  · rw [State.commitWait_beginCommit]; exact hs.nodup.filter _
  · simp [State.commitWait_beginCommit]
  · rintro h rfl
    rw [State.group_beginCommit, if_pos rfl]; rfl
  · exact ⟨(s.group h).remaining, by rw [State.group_beginCommit, if_neg (Ne.symm hh)], rfl, hs.running h⟩
  · obtain ⟨h, rfl, hm⟩ := hi
    simp [State.stagedValue_beginCommit, hm]
  · have hm : ¬ s.isMember g i = true := fun hm => hi ⟨g, rfl, hm⟩
    simp [State.stagedValue_beginCommit, hm]

/-! ## Every step -/

theorem State.inCommitWait_iff : s.inCommitWait i = true ↔ s.waitsToCommit i := by
  unfold State.inCommitWait
  cases hg : (s.entry i).group <;> simp [State.waitsToCommit, hg]

theorem State.GroupsLawful.worked (h : s.Worked t) (hs : s.GroupsLawful) : t.GroupsLawful := by
  have hsetup := h.sameSetup
  cases h with
  | entry i e touched => exact hs.setEntry_sameSetup i touched.sameSetup
  | record d x a v => exact hs.congr (fun _ => by simp) (by simp) (fun _ => by simp) hsetup
  | cause c => exact hs.congr (fun _ => rfl) rfl (fun _ => rfl) hsetup
  | staged g i v grouped occupied typed =>
    obtain ⟨hgroup, hen⟩ := State.enabledGroup_eq_some.mp grouped
    exact hs.stage (State.isMember_iff.mpr ⟨occupied, hgroup⟩) hen v
  | restaged i v waits occupied kept typed =>
    obtain ⟨g, hgroup, hlist⟩ := State.inCommitWait_iff.mp waits
    have hi := State.isMember_iff.mpr ⟨occupied, hgroup⟩
    have hg := (hs.listed g).mp hlist
    obtain ⟨w, rfl⟩ := Option.isSome_iff_exists.mp (kept (hs.complete g hg i hi))
    exact hs.restaged hi hg w
  | abandoned g c opened => exact hs.abandon opened c

theorem State.GroupsLawful.workedTo (h : s.WorkedTo t) (hs : s.GroupsLawful) : t.GroupsLawful :=
  h.keeps State.GroupsLawful.worked hs

theorem State.groupsLawful_deviceReset (s : State) (power : Bool) : (s.deviceReset power).GroupsLawful := by
  have hgroup (g : Fin 8) : (s.deviceReset power).group g = Group.initial := by
    simp [State.deviceReset, State.reset, State.group]
  have hstaged (i : Fin 48) : (s.deviceReset power).stagedValue i = none := by
    simp [State.deviceReset, State.reset, State.stagedValue]
  have hlist : (s.deviceReset power).commitWait = [] := rfl
  have hidle (g : Fin 8) : ((s.deviceReset power).group g).state = .idle := by rw [hgroup]; rfl
  have hremaining (g : Fin 8) : ((s.deviceReset power).group g).remaining = none := by rw [hgroup]; rfl
  have hopened (g : Fin 8) : ((s.deviceReset power).group g).state ≠ .opened := by rw [hidle]; nofun
  have hwait (g : Fin 8) : ((s.deviceReset power).group g).state ≠ .commitWait := by rw [hidle]; nofun
  exact
    { timeout := fun g => by rw [hgroup]; decide
      running := fun g n h => by rw [hremaining] at h; cases h
      nodup := .nil
      listed := fun g => by simp [hlist, hwait]
      enabled := fun g h => absurd (hidle g) h
      countdown := fun g => by simp [hremaining, hopened]
      marked := fun g => by rw [hidle, hgroup]; decide
      size := fun g h => by rw [hgroup] at h; cases h
      staging := fun i h => by rw [hstaged] at h; cases h
      begun := fun g h => absurd h (hopened g)
      unfinished := fun g h => absurd h (hopened g)
      complete := fun g h => absurd h (hwait g) }

theorem State.GroupsLawful.event (h : s.Event t) (hs : s.GroupsLawful) : t.GroupsLawful := by
  cases h with
  | idle same => exact hs.sameBlocks same
  | accept r room j judged =>
    have hcount : s.countAcceptance.GroupsLawful :=
      hs.congr (fun _ => rfl) rfl (fun _ => rfl) fun _ => .refl _
    have hj : j.1.GroupsLawful := by rw [judged]; exact hcount.workedTo (s.judge_target_workedTo r)
    exact hj.congr (fun _ => rfl) rfl (fun _ => rfl) fun _ => .refl _
  | commitStart g granted =>
    have hframe := (s.beginCommit g).issueCommitWrite_frame
    refine (hs.beginCommit g).congr (State.group_issueCommitWrite _) (State.commitWait_issueCommitWrite _)
      (State.stagedValue_issueCommitWrite _) fun i => ?_
    rw [State.entry_issueCommitWrite]; exact .refl _
  | commitWrite granted =>
    refine hs.congr (State.group_issueCommitWrite _) (State.commitWait_issueCommitWrite _)
      (State.stagedValue_issueCommitWrite _) fun i => ?_
    rw [State.entry_issueCommitWrite]; exact .refl _
  | fallback i granted =>
    have hframe := s.issueFallbackOf_frame i
    exact hs.congr (fun _ => by rw [hframe]; rfl) (by rw [hframe]) (fun _ => by rw [hframe]; rfl)
      (s.entry_issueFallbackOf_sameSetup i)
  | answer e rest log m d =>
    have hframe := State.dispatch_frame { s with issueLog := rest } e m d
    refine hs.congr (fun _ => by rw [hframe]; rfl) (by rw [hframe]) (fun _ => by rw [hframe]; rfl) fun i => ?_
    rw [State.entry_dispatch]; exact .refl _
  | discard log =>
    unfold State.discardAnswer
    dsimp only
    split <;> exact hs.congr (fun _ => rfl) rfl (fun _ => rfl) fun _ => .refl _
  | tick => exact hs.tickEvent
  | expireEntry i => exact hs.workedTo (s.expireEntry_workedTo i)
  | expireGroup g => exact hs.workedTo (s.expireGroup_workedTo g)
  | reset power => exact s.groupsLawful_deviceReset power
  | _ => exact hs.congr (fun _ => rfl) rfl (fun _ => rfl) fun _ => .refl _

theorem State.GroupsLawful.changeMode (hs : s.GroupsLawful) (m : Mode) : (s.changeMode m).GroupsLawful := by
  have hmap (u : State) (hu : u.GroupsLawful) (f : Fin 48 → Entry → Entry) (hf : ∀ (i : Fin 48) (e : Entry), e.SameSetup (f i e)) :
      (u.mapEntries f).GroupsLawful :=
    hu.congr (fun _ => rfl) rfl (fun _ => rfl) fun i => by rw [State.entry_mapEntries]; exact hf i _
  have hclear (u : State) (hu : u.GroupsLawful) : u.clearMarks.GroupsLawful :=
    hmap u hu _ fun _ e => Entry.sameSetup_setReference e _ none
  have heffects : (s.modeEffects s.mode m).GroupsLawful := by
    unfold State.modeEffects
    split
    · exact hmap s hs _ fun _ e => e.sameSetup_leaveBypass
    · exact hmap s hs _ fun _ e => e.sameSetup_leaveBypass
    · exact hs.abandonOpen
    · exact hclear _ hs.abandonOpen
    · exact hclear _ hs
    all_goals exact hs
  exact heffects.congr (fun _ => rfl) rfl (fun _ => rfl) fun _ => .refl _

/-- A group record written with a timeout in range, in the state and round it is in. -/
theorem State.GroupsLawful.setGroup (hs : s.GroupsLawful) {p : GroupPayload} (hp : p.timeout ≠ 0)
    (hidle : groupEnable p = false → (s.group g).state = .idle)
    (hsize : groupEnable p = true → 2 ≤ (s.members g).length ∧ (s.members g).length ≤ 8) :
    (s.setGroup g (configuredGroup p (s.group g))).GroupsLawful := by
  have hgroup (h : Fin 8) : (s.setGroup g (configuredGroup p (s.group g))).group h =
      if g = h then configuredGroup p (s.group h) else s.group h := by
    rw [State.group_setGroup]
    split
    · next hgh => subst hgh; rfl
    · rfl
  have hround (h : Fin 8) : ((s.setGroup g (configuredGroup p (s.group g))).group h).state = (s.group h).state ∧
      ((s.setGroup g (configuredGroup p (s.group g))).group h).remaining = (s.group h).remaining ∧
      ((s.setGroup g (configuredGroup p (s.group g))).group h).mark = (s.group h).mark := by
    rw [hgroup]
    split <;> exact ⟨rfl, rfl, rfl⟩
  have htimeout : 1 ≤ p.timeout.toNat ∧ p.timeout.toNat ≤ 65535 :=
    ⟨Nat.pos_of_ne_zero fun h0 => hp (BitVec.eq_of_toNat_eq h0), by omega⟩
  have hlength (h : Fin 8) : ((s.setGroup g (configuredGroup p (s.group g))).members h).length = (s.members h).length :=
    State.length_members_congr fun _ => rfl
  refine ⟨fun h => ?_, fun h => ?_, hs.nodup, fun h => ?_, fun h hh => ?_, fun h => ?_, fun h => ?_, fun h hh => ?_,
    fun i hi => ?_, fun h hh => ?_, fun h hh => ?_, fun h hh => ?_⟩
  · rw [hgroup]
    split
    · exact htimeout
    · exact hs.timeout h
  · rw [(hround h).2.1]; exact hs.running h
  · rw [(hround h).1]; exact hs.listed h
  · rw [(hround h).1] at hh
    rw [hgroup]
    split
    · next hgh =>
      subst hgh
      refine Classical.byContradiction fun hen => ?_
      exact hh (hidle (by simpa [configuredGroup] using hen))
    · exact hs.enabled h hh
  · rw [(hround h).1, (hround h).2.1]; exact hs.countdown h
  · rw [(hround h).1, (hround h).2.2]; exact hs.marked h
  · rw [hlength]
    rw [hgroup] at hh
    split at hh
    · next hgh => subst hgh; exact hsize hh
    · exact hs.size h hh
  · obtain ⟨h, hh, hlive⟩ := hs.staging i hi
    exact ⟨h, hh, by rwa [(hround h).1]⟩
  · rw [(hround h).1] at hh; exact hs.begun h hh
  · rw [(hround h).1] at hh; exact hs.unfinished h hh
  · rw [(hround h).1] at hh; exact hs.complete h hh

theorem Entry.freshDeadline_frame (e : Entry) (m : Mode) :
    e.freshDeadline m = { e with remaining := (e.freshDeadline m).remaining } := by
  unfold Entry.freshDeadline
  split <;> rfl

theorem Entry.refreshed_frame (e : Entry) (m : Mode) :
    e.refreshed m = { e with remaining := (e.refreshed m).remaining, mark := (e.refreshed m).mark } := by
  unfold Entry.refreshed
  split
  · rw [Entry.freshDeadline_frame]
  · rfl

theorem State.GroupsLawful.commanded (h : s.Commanded t) (hs : s.GroupsLawful) : t.GroupsLawful := by
  cases h with
  | same same => exact hs.sameBlocks same
  | mode m => exact hs.changeMode m
  | load p i a args fits =>
    simp only [State.loadFits, Bool.and_eq_true, Bool.not_eq_true', Option.isNone_iff_eq_none,
      State.enabledGroup_eq_none] at fits
    obtain ⟨⟨⟨hvacant, -⟩, -⟩, hfree⟩ := fits
    refine hs.setEntry i fun g hg => ?_
    rw [Entry.freshDeadline_frame]
    refine iff_of_false (fun h => ?_) fun h => ?_
    · rw [hfree g h.2] at hg; cases hg
    · exact absurd (Entry.occupied_iff.mpr h.1) (by simp [hvacant])
  | tune p i a occupied => exact hs.setEntry i fun g _ => Iff.rfl
  | fresh p i args occupied =>
    refine hs.setEntry i fun g _ => ?_
    rw [Entry.refreshed_frame]
    exact Iff.rfl
  | retire i free =>
    refine hs.setEntry i fun g hg => iff_of_false (fun h => h.1 rfl) fun h => ?_
    rw [State.enabledGroup_eq_none.mp free g h.2] at hg; cases hg
  | preload i v => exact hs.setEntry i fun g _ => Iff.rfl
  | forget i => exact hs.setEntry i fun g _ => Iff.rfl
  | clearSticky i flags => exact hs.setEntry i fun g _ => Iff.rfl
  | release i latched => exact hs.setEntry_sameSetup i (Entry.sameSetup_release latched _)
  | enable p g enables nonzero size =>
    exact hs.setGroup nonzero (fun h => by rw [enables] at h; cases h) fun _ => size
  | disable p g disables nonzero notWaiting =>
    refine (hs.workedTo (s.endRound_workedTo g)).setGroup nonzero (fun _ => ?_) fun h => by
      rw [disables] at h; cases h
    unfold State.endRound
    split
    · rw [State.group_abandon, if_pos rfl]; rfl
    · next hopen => cases hstate : (s.group g).state <;> simp_all
  | _ => exact hs.congr (fun _ => rfl) rfl (fun _ => rfl) fun _ => .refl _

/-- Settles O55: the law is kept by what it speaks of, staging that opens, continues or completes a round, the ending of
rounds by abandonment, tick or commit start, and the commands that make and leave members only of disabled groups. -/
theorem stepKeepsGroupLaw : Obligations.StepKeepsGroupLaw := fun _ _ hs h =>
  step_keeps State.GroupsLawful.sameBlocks State.GroupsLawful.event State.GroupsLawful.commanded h hs

end Sys2Proof.Machine
end

section
/-! SUPPORT. The value law of R2, R5, R6 and R11, and that every step keeps it. -/

namespace Sys2Proof.Machine

variable {s t : State} {e e' : Entry} {i : Fin 48}

/-! ## The arguments that the commands check -/

theorem optInType_iff {w : Width} {signed : Bool} {v : Option Int} :
    optInType w signed v = true ↔ ∀ x, v = some x → inType w signed x = true := by
  cases v <;> simp [optInType]

theorem limitsOrdered_iff {low high : Option Int} :
    limitsOrdered low high = true ↔ ∀ l h, low = some l → high = some h → l ≤ h := by
  cases low <;> cases high <;> simp [limitsOrdered]

theorem belowLow_eq_false {low : Option Int} {v : Int} : belowLow low v = false ↔ ∀ l, low = some l → l ≤ v := by
  cases low <;> simp [belowLow]

theorem aboveHigh_eq_false {high : Option Int} {v : Int} :
    aboveHigh high v = false ↔ ∀ h, high = some h → v ≤ h := by
  cases high <;> simp [aboveHigh]

theorem fallbackFits_iff : fallbackFits e = true ↔ ∀ v, e.fallback = some v → inType e.width e.signed v = true ∧
    (∀ l, e.low = some l → l ≤ v) ∧ ∀ h, e.high = some h → v ≤ h := by
  cases hf : e.fallback with
  | none => simp [fallbackFits, hf]
  | some v => simp [fallbackFits, hf, belowLow_eq_false, aboveHigh_eq_false, and_assoc]

theorem rulesInType_iff : rulesInType e = true ↔ (∀ l, e.low = some l → inType e.width e.signed l = true) ∧
    (∀ h, e.high = some h → inType e.width e.signed h = true) ∧ e.step ≤ e.width.span := by
  simp [rulesInType, optInType_iff, and_assoc]

/-- An entry whose rules a command has checked keeps the value law when its reference and threshold do. -/
theorem Entry.valueLawful_of_rules (rules : rulesInType e = true) (ordered : limitsOrdered e.low e.high = true)
    (fits : fallbackFits e = true) (href : ∀ v, e.reference = some v → inType e.width e.signed v = true)
    (htrip : e.trip ≤ 255) : e.ValueLawful := by
  obtain ⟨low, high, step⟩ := rulesInType_iff.mp rules
  exact ⟨low, high, limitsOrdered_iff.mp ordered, fallbackFits_iff.mp fits, href, step, htrip⟩

theorem Entry.vacant_valueLawful : Entry.vacant.ValueLawful := by
  refine ⟨nofun, nofun, nofun, nofun, nofun, ?_, ?_⟩ <;> decide

/-! ## What keeps the value law -/

/-- The law is kept where entries keep their setup and every reference and staged value is of its entry's type. -/
theorem State.ValuesLawful.congr (hs : s.ValuesLawful) (hsetup : ∀ i, (s.entry i).SameSetup (t.entry i))
    (href : ∀ i v, (t.entry i).reference = some v → (s.entry i).reference = some v ∨
      inType (s.entry i).width (s.entry i).signed v = true)
    (hstaged : ∀ i v, t.stagedValue i = some v → s.stagedValue i = some v ∨
      inType (s.entry i).width (s.entry i).signed v = true) : t.ValuesLawful where
  entries i := (hsetup i).valueLawful (hs.entries i) fun v hv =>
    (href i v hv).elim ((hs.entries i).reference v) id
  staged i v hv := by
    rw [(hsetup i).width, (hsetup i).signed]
    exact (hstaged i v hv).elim (hs.staged i v) id

/-- Nothing that the law speaks of has changed. -/
theorem State.ValuesLawful.same (hs : s.ValuesLawful) (hentry : ∀ i, t.entry i = s.entry i)
    (hstaged : ∀ i, t.stagedValue i = s.stagedValue i) : t.ValuesLawful :=
  hs.congr (fun i => by rw [hentry]; exact .refl _) (fun i v h => .inl (by rw [← hentry]; exact h))
    fun i v h => .inl (by rw [← hstaged]; exact h)

theorem State.ValuesLawful.sameBlocks (h : s.SameBlocks t) (hs : s.ValuesLawful) : t.ValuesLawful :=
  hs.same (fun i => by rw [h]; rfl) fun i => by rw [h]; rfl

/-- One entry written with one that keeps the law and agrees in type with a value staged for it. -/
theorem State.ValuesLawful.setEntry (hs : s.ValuesLawful) {x : Entry} (hx : x.ValueLawful)
    (hstaged : ∀ v, s.stagedValue i = some v → inType x.width x.signed v = true) : (s.setEntry i x).ValuesLawful where
  entries j := by
    rw [State.entry_setEntry]
    split
    · exact hx
    · exact hs.entries j
  staged j v hv := by
    rw [State.entry_setEntry]
    split
    · next hij => subst hij; exact hstaged v hv
    · exact hs.staged j v hv

theorem State.ValuesLawful.setEntry_sameSetup (hs : s.ValuesLawful) {x : Entry} (hsetup : (s.entry i).SameSetup x)
    (href : ∀ v, x.reference = some v → inType (s.entry i).width (s.entry i).signed v = true) :
    (s.setEntry i x).ValuesLawful :=
  hs.setEntry (hsetup.valueLawful (hs.entries i) href) fun v hv => by
    rw [hsetup.width, hsetup.signed]; exact hs.staged i v hv

theorem State.ValuesLawful.mapEntries (hs : s.ValuesLawful) (f : Fin 48 → Entry → Entry)
    (hsetup : ∀ (i : Fin 48) (e : Entry), e.SameSetup (f i e))
    (href : ∀ (i : Fin 48) (e : Entry), (f i e).reference = e.reference) : (s.mapEntries f).ValuesLawful :=
  hs.congr (fun i => by rw [State.entry_mapEntries]; exact hsetup i _)
    (fun i v h => .inl (by rw [State.entry_mapEntries, href] at h; exact h)) fun _ _ h => .inl h

/-! ## Elementary writes -/

theorem Entry.Touched.reference {m : Mode} {accepted : Nat} (h : Entry.Touched m accepted e e') (he : e.ValueLawful)
    {v : Int} (hv : e'.reference = some v) : inType e.width e.signed v = true := by
  cases h with
  | admitted w _ typed =>
    have hw : (e.admitValue w).reference = some w := by unfold Entry.admitValue; split <;> rfl
    rw [hw] at hv
    cases hv
    exact typed he
  | _ => exact he.reference v hv

theorem State.ValuesLawful.worked (h : s.Worked t) (hs : s.ValuesLawful) : t.ValuesLawful := by
  cases h with
  | entry i e touched =>
    exact hs.setEntry_sameSetup touched.sameSetup fun v hv => touched.reference (hs.entries i) hv
  | record d x a v => exact hs.same (fun _ => by simp) fun _ => by simp
  | cause c => exact hs.same (fun _ => rfl) fun _ => rfl
  | staged g i v _ _ typed =>
    refine hs.congr (fun j => by rw [State.entry_stage]; exact .refl _)
      (fun j w h => .inl (by rw [State.entry_stage] at h; exact h)) fun j w h => ?_
    rw [State.stagedValue_stage] at h
    split at h
    · next hij => subst hij; cases h; exact .inr (typed (hs.entries i))
    · exact .inl h
  | restaged i v _ _ _ typed =>
    refine hs.congr (fun _ => .refl _) (fun _ _ h => .inl h) fun j w h => ?_
    rw [State.stagedValue_setStaged] at h
    split at h
    · next hij => subst hij; exact .inr (typed w h)
    · exact .inl h
  | abandoned g c _ =>
    refine hs.congr (fun j => by rw [State.entry_abandon]; exact .refl _)
      (fun j w h => .inl (by rw [State.entry_abandon] at h; exact h)) fun j w h => ?_
    rw [State.stagedValue_abandon] at h
    split at h
    · cases h
    · exact .inl h

theorem State.ValuesLawful.workedTo (h : s.WorkedTo t) (hs : s.ValuesLawful) : t.ValuesLawful :=
  h.keeps State.ValuesLawful.worked hs

/-! ## Events -/

theorem State.ValuesLawful.tickCountdowns (hs : s.ValuesLawful) : s.tickCountdowns.ValuesLawful := by
  refine hs.congr (fun i => by rw [State.entry_tickCountdowns]; exact Entry.sameSetup_tickDown _ _)
    (fun i v h => .inl ?_) fun _ _ h => .inl h
  rw [State.entry_tickCountdowns] at h
  unfold Entry.tickDown at h
  split at h <;> exact h

/-- A committed value was staged, so it is of its member's type (R61). -/
theorem State.ValuesLawful.beginCommit (hs : s.ValuesLawful) (g : Fin 8) : (s.beginCommit g).ValuesLawful := by
  refine hs.congr (fun i => by rw [State.entry_beginCommit]; exact s.sameSetup_commitReference g i _)
    (fun i v h => ?_) fun i v h => ?_
  · rw [State.entry_beginCommit] at h
    unfold State.commitReference at h
    split at h
    · split at h
      · next w hw => cases h; exact .inr (hs.staged i _ hw)
      · exact .inl h
    · exact .inl h
  · rw [State.stagedValue_beginCommit] at h
    split at h
    · cases h
    · exact .inl h

/-- A fallback value is of its entry's type, so the reference that its write sets is (R11, R117). -/
theorem State.ValuesLawful.issueFallbackOf (hs : s.ValuesLawful) (i : Fin 48) :
    (s.issueFallbackOf i).ValuesLawful := by
  unfold State.issueFallbackOf
  dsimp only
  split
  · next v hv =>
    have hset := hs.setEntry_sameSetup (Entry.sameSetup_setReference (s.entry i) (some v) none) fun w hw => by
      cases hw; exact ((hs.entries i).fallback v hv).1
    exact hset.same (fun _ => rfl) fun _ => rfl
  · exact hs

theorem State.valuesLawful_deviceReset (s : State) (power : Bool) : (s.deviceReset power).ValuesLawful where
  entries i := by rw [State.entry_deviceReset]; exact Entry.vacant_valueLawful
  staged i v hv := by
    have hnone : (s.deviceReset power).stagedValue i = none := by
      simp [State.deviceReset, State.reset, State.stagedValue]
    rw [hnone] at hv; cases hv

theorem State.ValuesLawful.event (h : s.Event t) (hs : s.ValuesLawful) : t.ValuesLawful := by
  cases h with
  | idle same => exact hs.sameBlocks same
  | accept r room j judged =>
    have hcount : s.countAcceptance.ValuesLawful := hs.same (fun _ => rfl) fun _ => rfl
    have hj : j.1.ValuesLawful := by rw [judged]; exact hcount.workedTo (s.judge_target_workedTo r)
    exact hj.same (fun _ => rfl) fun _ => rfl
  | commitStart g granted =>
    exact (hs.beginCommit g).same (State.entry_issueCommitWrite _) (State.stagedValue_issueCommitWrite _)
  | commitWrite granted => exact hs.same (State.entry_issueCommitWrite _) (State.stagedValue_issueCommitWrite _)
  | fallback i granted => exact hs.issueFallbackOf i
  | answer x rest log m d =>
    have hframe := State.dispatch_frame { s with issueLog := rest } x m d
    exact hs.same (fun i => State.entry_dispatch _ _ _ _ _) fun _ => by rw [hframe]; rfl
  | discard log =>
    unfold State.discardAnswer
    dsimp only
    split <;> exact hs.same (fun _ => rfl) fun _ => rfl
  | tick => exact hs.tickCountdowns.workedTo s.tickEvent_workedTo
  | expireEntry i => exact hs.workedTo (s.expireEntry_workedTo i)
  | expireGroup g => exact hs.workedTo (s.expireGroup_workedTo g)
  | reset power => exact s.valuesLawful_deviceReset power
  | _ => exact hs.same (fun _ => rfl) fun _ => rfl

/-! ## Management commands -/

theorem State.ValuesLawful.changeMode (hs : s.ValuesLawful) (m : Mode) : (s.changeMode m).ValuesLawful := by
  have hleave : (s.mapEntries fun _ e => e.leaveBypass).ValuesLawful :=
    hs.mapEntries _ (fun _ e => e.sameSetup_leaveBypass) fun _ e => by
      unfold Entry.leaveBypass; split <;> rfl
  have hclear (u : State) (hu : u.ValuesLawful) : u.clearMarks.ValuesLawful :=
    hu.mapEntries _ (fun _ e => Entry.sameSetup_setReference e _ none) fun _ _ => rfl
  have habandon := hs.workedTo s.abandonOpen_workedTo
  have heffects : (s.modeEffects s.mode m).ValuesLawful := by
    unfold State.modeEffects
    split
    · exact hleave
    · exact hleave
    · exact habandon
    · exact hclear _ habandon
    · exact hclear _ hs
    all_goals exact hs
  exact heffects.same (fun _ => rfl) fun _ => rfl

/-- A LOAD_ENTRY's arguments make an entry that keeps the law, with no reference yet (R18). -/
theorem loadedEntry_valueLawful {p : LoadPayload} {a : Action} (h : loadArgsOk p (loadedEntry p a) = true) (m : Mode) :
    ((loadedEntry p a).freshDeadline m).ValueLawful := by
  have hrules : rulesInType (loadedEntry p a) = true ∧ limitsOrdered (loadedEntry p a).low (loadedEntry p a).high = true ∧
      fallbackFits (loadedEntry p a) = true := by
    simp only [loadArgsOk, Bool.and_eq_true] at h
    obtain ⟨⟨⟨⟨⟨⟨⟨⟨-, -⟩, htyped⟩, hordered⟩, -⟩, -⟩, -⟩, -⟩, hfits⟩ := h
    exact ⟨htyped, hordered, hfits⟩
  have hloaded : (loadedEntry p a).ValueLawful :=
    Entry.valueLawful_of_rules hrules.1 hrules.2.1 hrules.2.2 nofun (show p.trip.toNat ≤ 255 by omega)
  rw [Entry.freshDeadline_frame]
  exact { hloaded with }

/-- Only a member of an enabled group holds a staged value (R49, R53). -/
theorem State.GroupsLawful.stagedValue_eq_none (hg : s.GroupsLawful)
    (h : (s.entry i).state = .vacant ∨ s.enabledGroup (s.entry i) = none) : s.stagedValue i = none := by
  refine Classical.byContradiction fun hne => ?_
  obtain ⟨g, hmem, hstate⟩ := hg.staging i (Option.isSome_iff_ne_none.mpr hne)
  obtain ⟨hocc, hgroup⟩ := State.isMember_iff.mp hmem
  rcases h with h | h
  · exact hocc h
  · have := State.enabledGroup_eq_none.mp h g hgroup
    rw [hg.enabled g hstate] at this
    cases this

theorem State.ValuesLawful.commanded (h : s.Commanded t) (hg : s.GroupsLawful) (hs : s.ValuesLawful) :
    t.ValuesLawful := by
  cases h with
  | same same => exact hs.sameBlocks same
  | mode m => exact hs.changeMode m
  | load p i a args fits =>
    have hvacant : (s.entry i).state = .vacant := by
      simp only [State.loadFits, Bool.and_eq_true, Bool.not_eq_true'] at fits
      simpa [Entry.occupied] using fits.1.1.1
    refine hs.setEntry (loadedEntry_valueLawful args s.mode) fun v hv => ?_
    rw [hg.stagedValue_eq_none (.inl hvacant)] at hv; cases hv
  | tune p i a occupied ordered typed fits =>
    exact hs.setEntry (Entry.valueLawful_of_rules typed ordered fits (hs.entries i).reference
      (show p.trip.toNat ≤ 255 by omega)) (hs.staged i)
  | fresh p i args occupied ungrouped fits =>
    have he := hs.entries i
    rw [Entry.refreshed_frame]
    exact hs.setEntry ⟨he.low, he.high, he.ordered, fallbackFits_iff.mp fits, he.reference, he.step, he.trip⟩
      (hs.staged i)
  | retire i free =>
    refine hs.setEntry Entry.vacant_valueLawful fun v hv => ?_
    rw [hg.stagedValue_eq_none (.inr free)] at hv; cases hv
  | preload i v typed =>
    exact hs.setEntry_sameSetup ⟨rfl, Iff.rfl⟩ fun w hw => by cases hw; exact typed
  | forget i => exact hs.setEntry_sameSetup ⟨rfl, Iff.rfl⟩ nofun
  | clearSticky i flags => exact hs.setEntry_sameSetup ⟨rfl, Iff.rfl⟩ (hs.entries i).reference
  | release i latched =>
    refine hs.setEntry_sameSetup (Entry.sameSetup_release latched s.mode) fun v hv => (hs.entries i).reference v ?_
    rw [Entry.release, Entry.freshDeadline_frame] at hv
    exact hv
  | disable p g disables nonzero notWaiting =>
    exact (hs.workedTo (s.endRound_workedTo g)).same (fun _ => rfl) fun _ => rfl
  | _ => exact hs.same (fun _ => rfl) fun _ => rfl

/-- Settles O58: the law is kept with the group law, which says that an entry loaded or retired holds no staged value. -/
theorem stepKeepsValueLaw : Obligations.StepKeepsValueLaw := by
  intro s t hs hg h
  have hkept : t.GroupsLawful ∧ t.ValuesLawful :=
    step_keeps (P := fun s => s.GroupsLawful ∧ s.ValuesLawful)
      (fun h hp => ⟨hp.1.sameBlocks h, hp.2.sameBlocks h⟩) (fun h hp => ⟨hp.1.event h, hp.2.event h⟩)
      (fun h hp => ⟨hp.1.commanded h, hp.2.commanded h hp.1⟩) h ⟨hg, hs⟩
  exact hkept.2

end Sys2Proof.Machine
end

section
/-! SUPPORT. Steps, the clock, device reset, and what each command can reach. -/

namespace Sys2Proof.Machine

variable {s t : State} {c : Instr}

/-! ## Steps and the clock -/

/-- Settles O1. -/
theorem stepTakesFrontCommand : Obligations.StepTakesFrontCommand := fun _ _ _ => rfl

theorem step_idle (h : s.pending = []) : step s = .next s.clockPeriod := by
  simp only [step, h]

/-- Settles O2, by the branches of the clock. -/
theorem idleStepCountsTheClock : Obligations.IdleStepCountsTheClock := by
  intro s hidle
  have hclk : Config.clkPerMicrosecond = 16 := rfl
  rw [step_idle hidle]
  unfold State.clockPeriod
  refine ⟨fun h => ?_, fun h hlt => ?_, fun h hle hus => ?_, fun h hle hus => ?_⟩
  · rw [if_pos h]
  · rw [if_neg (by simp [h]), if_pos (by omega)]
  · rw [if_neg (by simp [h]), if_neg (by omega), if_pos hus]
  · rw [if_neg (by simp [h]), if_neg (by omega), if_neg (by omega)]
    show _ = Host.Outcome.next s.tick
    rw [State.tick, if_neg (by simp [h])]

/-! ## What each command can reach -/

/-- The parts of the state that a command can change, by its row: the state after it differs at most there. -/
def reaches (c : Instr) (s t : State) : Prop :=
  match c with
  | .acceptance _ => t = { s with
      presented := t.presented, accepted := t.accepted, slots := t.slots, entries := t.entries, groups := t.groups
      staged := t.staged, commitWait := t.commitWait, records := t.records, sequence := t.sequence, lost := t.lost
      causes := t.causes }
  | .send => t = { s with slots := t.slots, npAnswer := t.npAnswer }
  | .issue => t = { s with slots := t.slots, issueLog := t.issueLog, fpRequest := t.fpRequest }
  | .commitStart => t = { s with
      entries := t.entries, groups := t.groups, staged := t.staged, commitWait := t.commitWait
      commitBuffer := t.commitBuffer, issueLog := t.issueLog, fpRequest := t.fpRequest, records := t.records
      sequence := t.sequence, lost := t.lost, causes := t.causes }
  | .commitMemberWrite => t = { s with
      commitBuffer := t.commitBuffer, issueLog := t.issueLog, fpRequest := t.fpRequest }
  | .fallbackIssue => t = { s with entries := t.entries, issueLog := t.issueLog, fpRequest := t.fpRequest }
  | .ownershipRead | .ringRecordWrite => t = { s with
      issueLog := t.issueLog, fpRequest := t.fpRequest, posting := t.posting }
  | .memoryAnswer _ _ => t = { s with
      slots := t.slots, issueLog := t.issueLog, drain := t.drain, records := t.records, sequence := t.sequence
      lost := t.lost, causes := t.causes, ringState := t.ringState, head := t.head, posting := t.posting }
  | .tick | .deadlineExpiry _ | .timeoutExpiry _ => t = { s with
      tickCounter := t.tickCounter, intervalLength := t.intervalLength, clkCount := t.clkCount, usCount := t.usCount
      entries := t.entries, groups := t.groups, staged := t.staged, commitWait := t.commitWait, records := t.records
      sequence := t.sequence, lost := t.lost, causes := t.causes }
  | .deviceReset _ => t = { t with pending := s.pending }
  | .resetRelease | .frameStart | .frameNotTaken | .incomingByte _ => t = { s with
      inReset := t.inReset, intervalLength := t.intervalLength, clkCount := t.clkCount, usCount := t.usCount
      frame := t.frame, receiver := t.receiver, held := t.held, outByte := t.outByte }
  | .nop | .getStatus | .readEntry _ | .readGroup _ | .readTime => t = { s with
      frame := t.frame, receiver := t.receiver, held := t.held, outByte := t.outByte }
  | .setMode _ => t = { s with
      mode := t.mode, entries := t.entries, groups := t.groups, staged := t.staged, commitWait := t.commitWait
      records := t.records, sequence := t.sequence, lost := t.lost, causes := t.causes
      frame := t.frame, receiver := t.receiver, held := t.held, outByte := t.outByte }
  | .loadEntry _ | .tuneEntry _ | .setFresh _ | .retireEntry _ | .preloadReference _ _ | .forgetReference _
  | .clearSticky _ _ | .releaseEntry _ => t = { s with
      entries := t.entries, frame := t.frame, receiver := t.receiver, held := t.held, outByte := t.outByte }
  | .configGroupEnable _ | .configGroupDisable _ => t = { s with
      entries := t.entries, groups := t.groups, staged := t.staged, commitWait := t.commitWait
      records := t.records, sequence := t.sequence, lost := t.lost, causes := t.causes
      frame := t.frame, receiver := t.receiver, held := t.held, outByte := t.outByte }
  | .configRing _ _ => t = { s with
      ringState := t.ringState, ringBase := t.ringBase, ringSlots := t.ringSlots, head := t.head, posting := t.posting
      frame := t.frame, receiver := t.receiver, held := t.held, outByte := t.outByte }
  | .ringOff | .ringPoll => t = { s with
      ringState := t.ringState, posting := t.posting, records := t.records, lost := t.lost
      frame := t.frame, receiver := t.receiver, held := t.held, outByte := t.outByte }
  | .setTick _ => t = { s with
      tickLength := t.tickLength, frame := t.frame, receiver := t.receiver, held := t.held, outByte := t.outByte }
  | .setAlertMask _ => t = { s with
      mask := t.mask, frame := t.frame, receiver := t.receiver, held := t.held, outByte := t.outByte }
  | .ackAlerts _ => t = { s with
      causes := t.causes, frame := t.frame, receiver := t.receiver, held := t.held, outByte := t.outByte }

/-- A state that a command leaves as it stands is one that it can reach. -/
theorem reaches_refl (c : Instr) (s : State) : reaches c s s := by
  cases c <;> rfl

section
variable (s : State)

theorem State.acceptRequest_reaches (r : NpRequest) : reaches (.acceptance r) s (s.acceptRequest r) := by
  unfold State.acceptRequest
  split
  · have hj := State.judge_judged s.countAcceptance r (s.target r)
    dsimp only [reaches]
    rw [hj]
    rfl
  · rfl

theorem State.tickEvent_reaches : reaches .tick s s.tickEvent := by
  dsimp only [reaches]
  rw [State.tickEvent_frame]

theorem State.tick_reaches : reaches .tick s s.tick := by
  unfold State.tick
  split
  · rfl
  · exact s.tickEvent_reaches

theorem State.JudgedFrom.tick_reaches (h : s.JudgedFrom t) : reaches .tick s t := by
  dsimp only [reaches]
  rw [h]

theorem State.deadlineExpiry_reaches (i : Fin 48) : reaches .tick s (s.deadlineExpiry i) := by
  unfold State.deadlineExpiry
  split
  · split
    · exact State.JudgedFrom.tick_reaches s (s.expireEntry_judged i)
    · exact s.tick_reaches
    · rfl
  · rfl

theorem State.timeoutExpiry_reaches (g : Fin 8) : reaches .tick s (s.timeoutExpiry g) := by
  unfold State.timeoutExpiry
  split
  · split
    · exact State.JudgedFrom.tick_reaches s (s.expireGroup_judged g)
    · exact s.tick_reaches
    · rfl
  · rfl

theorem State.commitStart_reaches : reaches .commitStart s s.commitStart := by
  unfold State.commitStart
  split
  · next g _ =>
    dsimp only [reaches]
    rw [State.issueCommitWrite_frame, State.beginCommit_frame]
  · rfl

theorem State.memoryAnswer_reaches (m : MemStatus) (d : Word) :
    reaches (.memoryAnswer m d) s (s.memoryAnswer m d) := by
  unfold State.memoryAnswer
  split
  · dsimp only [reaches]
    rw [State.dispatch_frame]
  · unfold State.discardAnswer
    dsimp only
    split <;> rfl

/-- A row that is no management command reaches the parts of its row. -/
theorem exec_event_reaches (hc : managementCommand c = none) (h : exec c s = .next t) : reaches c s t := by
  cases c <;> cases hc <;> cases h
  case acceptance r => exact s.acceptRequest_reaches r
  case send =>
    unfold State.sendAnswer
    split
    · split <;> rfl
    · rfl
  case issue => unfold State.issueSlot; split <;> rfl
  case commitStart => exact s.commitStart_reaches
  case commitMemberWrite =>
    unfold State.commitMemberWrite
    split
    · dsimp only [reaches]; rw [State.issueCommitWrite_frame]
    · rfl
  case fallbackIssue =>
    unfold State.issueFallback
    split
    · dsimp only [reaches]; rw [State.issueFallbackOf_frame]
    · rfl
  case ownershipRead => unfold State.ownershipRead; split <;> rfl
  case ringRecordWrite => unfold State.ringRecordWrite; split <;> rfl
  case memoryAnswer m d => exact s.memoryAnswer_reaches m d
  case tick => exact s.tick_reaches
  case deadlineExpiry n =>
    split
    · exact s.deadlineExpiry_reaches _
    · rfl
  case timeoutExpiry n =>
    split
    · exact s.timeoutExpiry_reaches _
    · rfl
  case deviceReset power => rfl
  case resetRelease => unfold State.resetRelease; split <;> rfl
  case frameStart => rfl
  case frameNotTaken =>
    unfold State.frameNotTaken
    split
    · rfl
    · rfl
    · split <;> rfl
  case incomingByte b => unfold State.incomingByte; split <;> rfl

end

/-! ## Management commands -/

/-- A command of one occupied entry reaches the entries alone. -/
theorem onOccupied_entries (s : State) (index : Byte) (act : Fin 48 → Entry → State × Response)
    (hact : ∀ i e, ∃ x, (act i e).1 = { s with entries := x }) :
    ∃ x, (onOccupied index s act).1 = { s with entries := x } := by
  unfold onOccupied
  split
  · exact ⟨_, rfl⟩
  · split
    · exact hact _ _
    · exact ⟨_, rfl⟩

section
variable (s : State)

theorem loadEntryAct_entries (p : LoadPayload) : ∃ x, (loadEntryAct p s).1 = { s with entries := x } := by
  unfold loadEntryAct
  split
  · dsimp only
    split
    · split <;> exact ⟨_, rfl⟩
    · exact ⟨_, rfl⟩
  · exact ⟨_, rfl⟩

theorem tuneEntryAct_entries (p : TunePayload) : ∃ x, (tuneEntryAct p s).1 = { s with entries := x } := by
  unfold tuneEntryAct
  split
  · dsimp only
    split
    · exact ⟨_, rfl⟩
    · split
      · exact ⟨_, rfl⟩
      · split <;> exact ⟨_, rfl⟩
  · exact ⟨_, rfl⟩

theorem setFreshAct_entries (p : FreshPayload) : ∃ x, (setFreshAct p s).1 = { s with entries := x } := by
  unfold setFreshAct
  split
  · exact ⟨_, rfl⟩
  · dsimp only
    split
    · exact ⟨_, rfl⟩
    · split
      · exact ⟨_, rfl⟩
      · split
        · exact ⟨_, rfl⟩
        · split <;> exact ⟨_, rfl⟩

theorem retireEntryAct_entries (index : Byte) : ∃ x, (retireEntryAct index s).1 = { s with entries := x } :=
  onOccupied_entries s index _ fun _ _ => by split <;> exact ⟨_, rfl⟩

theorem preloadReferenceAct_entries (index : Byte) (v : Word) :
    ∃ x, (preloadReferenceAct index v s).1 = { s with entries := x } :=
  onOccupied_entries s index _ fun _ _ => by split <;> exact ⟨_, rfl⟩

theorem forgetReferenceAct_entries (index : Byte) : ∃ x, (forgetReferenceAct index s).1 = { s with entries := x } :=
  onOccupied_entries s index _ fun _ _ => ⟨_, rfl⟩

theorem clearStickyAct_entries (index flags : Byte) :
    ∃ x, (clearStickyAct index flags s).1 = { s with entries := x } := by
  unfold clearStickyAct
  split
  · exact ⟨_, rfl⟩
  · exact onOccupied_entries s index _ fun _ _ => ⟨_, rfl⟩

theorem releaseEntryAct_entries (index : Byte) : ∃ x, (releaseEntryAct index s).1 = { s with entries := x } := by
  unfold releaseEntryAct
  split
  · exact ⟨_, rfl⟩
  · split <;> exact ⟨_, rfl⟩

theorem setModeAct_judged (code : Byte) : ∃ m, { s with mode := m }.JudgedFrom (setModeAct code s).1 := by
  unfold setModeAct
  split
  · next m _ =>
    refine ⟨m, ?_⟩
    have hj := s.modeEffects_judged s.mode m
    dsimp only [State.changeMode, State.JudgedFrom]
    rw [hj]
  · exact ⟨s.mode, rfl⟩

theorem configGroupEnableAct_judged (p : GroupPayload) : s.JudgedFrom (configGroupEnableAct p s).1 := by
  unfold configGroupEnableAct
  split
  · rfl
  · split <;> rfl

theorem configGroupDisableAct_judged (p : GroupPayload) : s.JudgedFrom (configGroupDisableAct p s).1 := by
  unfold configGroupDisableAct
  split
  · rfl
  · next g _ =>
    split
    · rfl
    · exact (s.endRound_workedTo g).judged.trans (State.setGroup_judged _ g _)

end

/-- The response and the line beside what an act reaches. -/
theorem reaches_respond_entries {u : State × Response} (h : ∃ x, u.1 = { s with entries := x }) :
    reaches (.forgetReference 0) s (u.1.respond u.2) := by
  obtain ⟨x, hx⟩ := h
  dsimp only [reaches, State.respond]
  rw [hx]

theorem reaches_respond_judged {u : State × Response} {m : Mode} (h : { s with mode := m }.JudgedFrom u.1) (code : Byte) :
    reaches (.setMode code) s (u.1.respond u.2) := by
  dsimp only [reaches, State.respond]
  rw [h]

theorem reaches_respond_group {u : State × Response} (h : s.JudgedFrom u.1) (p : GroupPayload) :
    reaches (.configGroupEnable p) s (u.1.respond u.2) := by
  dsimp only [reaches, State.respond]
  rw [h]

/-- A management command reaches the parts of its row. -/
theorem managementAct_reaches {code : Byte} {payload : List Byte} (hc : managementCommand c = some (code, payload)) :
    reaches c s ((managementAct c s).1.respond (managementAct c s).2) := by
  cases c <;> cases hc
  case setMode code =>
    obtain ⟨m, hm⟩ := setModeAct_judged s code
    exact reaches_respond_judged hm code
  case loadEntry p => exact reaches_respond_entries (loadEntryAct_entries s p)
  case tuneEntry p => exact reaches_respond_entries (tuneEntryAct_entries s p)
  case setFresh p => exact reaches_respond_entries (setFreshAct_entries s p)
  case retireEntry index => exact reaches_respond_entries (retireEntryAct_entries s index)
  case preloadReference index v => exact reaches_respond_entries (preloadReferenceAct_entries s index v)
  case forgetReference index => exact reaches_respond_entries (forgetReferenceAct_entries s index)
  case clearSticky index flags => exact reaches_respond_entries (clearStickyAct_entries s index flags)
  case releaseEntry index => exact reaches_respond_entries (releaseEntryAct_entries s index)
  case configGroupEnable p => exact reaches_respond_group (configGroupEnableAct_judged s p) p
  case configGroupDisable p => exact reaches_respond_group (configGroupDisableAct_judged s p) p
  case readEntry index => dsimp only [managementAct]; unfold readEntryAct; split <;> rfl
  case readGroup group => dsimp only [managementAct]; unfold readGroupAct; split <;> rfl
  case configRing base slots =>
    dsimp only [managementAct]
    unfold configRingAct
    split
    · rfl
    · split
      · rfl
      · split <;> rfl
  case ringOff => dsimp only [managementAct]; unfold ringOffAct; split <;> rfl
  case ringPoll => dsimp only [managementAct]; unfold ringPollAct; split <;> rfl
  case setTick length => dsimp only [managementAct]; unfold setTickAct; split <;> rfl
  all_goals rfl

/-- Every command has a next state and reaches the parts of its row. -/
theorem exec_reaches (c : Instr) (s : State) : ∃ t, exec c s = .next t ∧ reaches c s t := by
  cases hc : managementCommand c with
  | none =>
    have hnext : ∃ t, exec c s = .next t := by cases c <;> cases hc <;> exact ⟨_, rfl⟩
    obtain ⟨t, ht⟩ := hnext
    exact ⟨t, ht, exec_event_reaches s hc ht⟩
  | some p =>
    rcases exec_management_cases (s := s) hc with hstay | ⟨-, -, hact⟩
    · exact ⟨s, hstay, reaches_refl c s⟩
    · exact ⟨_, hact, managementAct_reaches hc⟩

theorem reaches_of_exec (h : exec c s = .next t) : reaches c s t := by
  obtain ⟨u, hu, hreach⟩ := exec_reaches c s
  rw [hu] at h
  cases h
  exact hreach

/-- Settles O3: no command reaches the queue. -/
theorem everyCommandGoesOnAndKeepsTheQueue : Obligations.EveryCommandGoesOnAndKeepsTheQueue := by
  intro c s
  obtain ⟨t, ht, hreach⟩ := exec_reaches c s
  refine ⟨t, ht, ?_⟩
  cases c <;> (dsimp only [reaches] at hreach; rw [hreach])

/-! ## Device reset -/

theorem State.group_deviceReset (s : State) (power : Bool) (g : Fin 8) : (s.deviceReset power).group g = Group.initial := by
  simp [State.deviceReset, State.reset, State.group]

theorem State.stagedValue_deviceReset (s : State) (power : Bool) (i : Fin 48) :
    (s.deviceReset power).stagedValue i = none := by
  simp [State.deviceReset, State.reset, State.stagedValue]

theorem frameThroughReset_eq (f : FrameState) : frameThroughReset f = if f = .idle then .idle else .void := by
  cases f <;> rfl

/-- The reset input's release takes the reset input alone back and begins an interval. -/
theorem State.resetRelease_deviceReset (s : State) : (s.deviceReset true).resetRelease = { State.reset with
    pending := s.pending, presented := s.presented, frame := if s.frame = .idle then .idle else .void } := by
  rw [← frameThroughReset_eq]
  rfl

/-- Settles O4. -/
theorem deviceResetAndReleaseSetEveryBlock : Obligations.DeviceResetAndReleaseSetEveryBlock := by
  refine ⟨fun power s => ⟨s.deviceReset power, rfl, rfl, rfl, rfl, s.entry_deviceReset power,
      s.group_deviceReset power, s.stagedValue_deviceReset power, ?_⟩, ⟨rfl, rfl, rfl⟩,
    fun s => ⟨fun h => ?_, fun h => ?_, ⟨s.deviceReset true, rfl, ?_⟩⟩⟩
  · exact ⟨rfl, rfl, rfl, rfl, rfl, rfl, rfl, rfl, rfl, rfl, rfl, rfl, rfl, rfl, rfl, rfl, rfl, rfl, rfl⟩
  · exact congrArg Host.Outcome.next (if_pos h)
  · exact congrArg Host.Outcome.next (if_neg (by simp [h]))
  · exact congrArg Host.Outcome.next s.resetRelease_deviceReset

theorem State.grant_inReset (h : s.inReset = true) : s.grant = none := by
  have hopen : ¬ s.grantOpen = true := fun ho => by
    rw [(State.grantOpen_iff.mp ho).1] at h; cases h
  rw [State.grant, if_neg hopen]

theorem State.delivers_inReset (h : s.inReset = true) (code : Byte) (payload : List Byte) :
    s.delivers code payload = false := by
  simp [State.delivers, h]

/-- In device reset no frame delivers a management command. -/
theorem exec_management_inReset (h : s.inReset = true) {code : Byte} {payload : List Byte}
    (hc : managementCommand c = some (code, payload)) : exec c s = .next s :=
  exec_undelivered hc (State.delivers_inReset h code payload)

theorem State.tick_inReset (h : s.inReset = true) : s.tick = s := by rw [State.tick, if_pos h]

/-- The far port's rows need a grant. -/
theorem exec_ungranted (h : s.grant = none) : ∀ c ∈ [Instr.issue, .commitStart, .commitMemberWrite, .fallbackIssue,
    .ownershipRead, .ringRecordWrite], exec c s = .next s := by
  simp only [List.mem_cons, List.not_mem_nil, or_false]
  rintro c (rfl | rfl | rfl | rfl | rfl | rfl)
  · show Host.Outcome.next s.issueSlot = _; simp [State.issueSlot, h]
  · show Host.Outcome.next s.commitStart = _; simp [State.commitStart, h]
  · show Host.Outcome.next s.commitMemberWrite = _; simp [State.commitMemberWrite, h]
  · show Host.Outcome.next s.issueFallback = _; simp [State.issueFallback, h]
  · show Host.Outcome.next s.ownershipRead = _; simp [State.ownershipRead, h]
  · show Host.Outcome.next s.ringRecordWrite = _; simp [State.ringRecordWrite, h]

theorem exec_deadlineExpiry (i : Fin 48) : exec (.deadlineExpiry i.val) s = .next (s.deadlineExpiry i) :=
  congrArg Host.Outcome.next (dif_pos i.isLt)

theorem exec_deadlineExpiry_none {n : Nat} (h : ¬ n < 48) : exec (.deadlineExpiry n) s = .next s :=
  congrArg Host.Outcome.next (dif_neg h)

theorem groupOf_groupNumber (g : Fin 8) : groupOf (g.val + 1) = some g := by
  have hg : 1 ≤ g.val + 1 ∧ g.val + 1 ≤ 8 := ⟨by omega, by omega⟩
  simp [groupOf, hg]

theorem exec_timeoutExpiry (g : Fin 8) : exec (.timeoutExpiry (g.val + 1)) s = .next (s.timeoutExpiry g) := by
  show Host.Outcome.next (match groupOf (g.val + 1) with
    | some g => s.timeoutExpiry g
    | none => s) = _
  rw [groupOf_groupNumber]

theorem exec_expiry_inReset (h : s.inReset = true) (n : Nat) :
    exec (.deadlineExpiry n) s = .next s ∧ exec (.timeoutExpiry n) s = .next s := by
  constructor
  · by_cases hn : n < 48
    · rw [exec_deadlineExpiry ⟨n, hn⟩, State.deadlineExpiry, if_neg (by simp [h])]
    · exact exec_deadlineExpiry_none hn
  · show Host.Outcome.next (match groupOf n with
      | some g => s.timeoutExpiry g
      | none => s) = _
    split
    · rw [State.timeoutExpiry, if_neg (by simp [h])]
    · rfl

/-- Settles O5: in device reset nothing is accepted, sent, granted, counted or delivered. -/
theorem deviceResetHoldsTheBlocks : Obligations.DeviceResetHoldsTheBlocks := by
  intro s h
  have hungranted := exec_ungranted (State.grant_inReset h)
  refine ⟨fun r => ?_, fun c hc => ?_, fun n => exec_expiry_inReset h n, fun b => ?_, ?_, ?_, ?_, ?_, ?_, ?_, ?_, ?_, ?_,
    fun hlog m d => ?_⟩
  · show Host.Outcome.next (s.acceptRequest r) = _
    rw [State.acceptRequest, if_neg (by simp [State.accepts, h])]
  · simp only [List.mem_cons, List.not_mem_nil, or_false] at hc
    rcases hc with rfl | rfl | rfl | rfl | rfl | rfl | rfl | rfl | rfl | rfl | rfl | rfl | rfl
    · show Host.Outcome.next s.sendAnswer = _; simp [State.sendAnswer, h]
    iterate 6 exact hungranted _ (by decide)
    · exact congrArg Host.Outcome.next (State.tick_inReset h)
    iterate 5 exact exec_management_inReset h rfl
  · exact ⟨exec_management_inReset h rfl, exec_management_inReset h rfl, exec_management_inReset h rfl,
      exec_management_inReset h rfl, exec_management_inReset h rfl, exec_management_inReset h rfl,
      exec_management_inReset h rfl, exec_management_inReset h rfl⟩
  iterate 5 exact fun p => exec_management_inReset h rfl
  iterate 3 exact fun a b => exec_management_inReset h rfl
  · exact fun n => exec_management_inReset h rfl
  · show Host.Outcome.next (s.memoryAnswer m d) = _
    simp [State.memoryAnswer, State.discardAnswer, hlog, h]

/-! ## The reset state -/

theorem State.entry_reset (i : Fin 48) : State.reset.entry i = Entry.vacant := by
  simp [State.reset, State.entry]

/-- Settles O60: every table is empty, and every block idle. -/
theorem resetStateIsLawful : Obligations.ResetStateIsLawful := by
  have hvacant (i : Fin 48) : (State.reset.entry i).state = .vacant := by rw [State.entry_reset]; rfl
  have hplaced : State.reset.Placed :=
    ⟨fun i _ _ h => absurd (hvacant i) h, fun h => absurd rfl h⟩
  have hbounded : State.reset.Bounded :=
    { slots := by decide, log := by decide, records := by decide, lost := by decide, drain := by decide
      drained := .inl rfl, counters := fun i => by rw [State.entry_reset]; decide }
  have hposting : State.reset.PostingLawful :=
    { running := fun h => absurd rfl h, outstanding := rfl
      waiting := fun h => by simp [State.reset] at h
      off := fun _ => rfl, head := .inr ⟨rfl, rfl, rfl⟩ }
  have hdeadlines : State.reset.DeadlinesLawful := fun i => by
    rw [State.entry_reset]
    exact ⟨nofun, nofun, nofun, nofun⟩
  have htransit : State.reset.TransitLawful :=
    { fits := by decide, numbers := rfl, order := .nil, logged := rfl }
  have hsame : (State.reset.deviceReset true).SameBlocks State.reset := rfl
  exact ⟨hbounded, hplaced, (State.reset.groupsLawful_deviceReset true).sameBlocks hsame, hposting, hdeadlines,
    (State.reset.valuesLawful_deviceReset true).sameBlocks hsame, htransit⟩

end Sys2Proof.Machine
end

section
/-! SUPPORT. Which command changes which register (R12, R18, R19, R21, R58, R76 to R78, R86, R108, R132, R145 to R147, R151). -/

namespace Sys2Proof.Machine

variable {s t u : State} {c : Instr}

/-! ## The registers that one row alone changes -/

theorem exec_tickCounter (h : exec c s = .next t) (hreset : ∀ p, c ≠ .deviceReset p)
    (hc : c ≠ .tick ∧ (∀ i, c ≠ .deadlineExpiry i) ∧ ∀ g, c ≠ .timeoutExpiry g) : t.tickCounter = s.tickCounter := by
  have hr := reaches_of_exec h
  cases c
  case deviceReset p => exact absurd rfl (hreset p)
  case tick => exact absurd rfl hc.1
  case deadlineExpiry i => exact absurd rfl (hc.2.1 i)
  case timeoutExpiry g => exact absurd rfl (hc.2.2 g)
  all_goals (dsimp only [reaches] at hr; rw [hr])

theorem exec_mode (h : exec c s = .next t) (hreset : ∀ p, c ≠ .deviceReset p) (hc : ∀ b, c ≠ .setMode b) :
    t.mode = s.mode := by
  have hr := reaches_of_exec h
  cases c
  case deviceReset p => exact absurd rfl (hreset p)
  case setMode b => exact absurd rfl (hc b)
  all_goals (dsimp only [reaches] at hr; rw [hr])

theorem exec_mask (h : exec c s = .next t) (hreset : ∀ p, c ≠ .deviceReset p) (hc : ∀ b, c ≠ .setAlertMask b) :
    t.mask = s.mask := by
  have hr := reaches_of_exec h
  cases c
  case deviceReset p => exact absurd rfl (hreset p)
  case setAlertMask b => exact absurd rfl (hc b)
  all_goals (dsimp only [reaches] at hr; rw [hr])

theorem exec_tickLength (h : exec c s = .next t) (hreset : ∀ p, c ≠ .deviceReset p) (hc : ∀ n, c ≠ .setTick n) :
    t.tickLength = s.tickLength := by
  have hr := reaches_of_exec h
  cases c
  case deviceReset p => exact absurd rfl (hreset p)
  case setTick n => exact absurd rfl (hc n)
  all_goals (dsimp only [reaches] at hr; rw [hr])

theorem exec_accepted (h : exec c s = .next t) (hreset : ∀ p, c ≠ .deviceReset p) (hc : ∀ r, c ≠ .acceptance r) :
    t.accepted = s.accepted := by
  have hr := reaches_of_exec h
  cases c
  case deviceReset p => exact absurd rfl (hreset p)
  case acceptance r => exact absurd rfl (hc r)
  all_goals (dsimp only [reaches] at hr; rw [hr])

theorem exec_ringPlace (h : exec c s = .next t) (hreset : ∀ p, c ≠ .deviceReset p) (hc : ∀ a n, c ≠ .configRing a n) :
    t.ringBase = s.ringBase ∧ t.ringSlots = s.ringSlots := by
  have hr := reaches_of_exec h
  cases c
  case deviceReset p => exact absurd rfl (hreset p)
  case configRing a n => exact absurd rfl (hc a n)
  all_goals (dsimp only [reaches] at hr; rw [hr]; exact ⟨rfl, rfl⟩)

/-! ## The slots -/

theorem exec_slots (h : exec c s = .next t) (hreset : ∀ p, c ≠ .deviceReset p) (hc : (∀ r, c ≠ .acceptance r) ∧
    c ≠ .send ∧ c ≠ .issue ∧ ∀ m d, c ≠ .memoryAnswer m d) : t.slots = s.slots := by
  obtain ⟨haccept, hsend, hissue, hanswer⟩ := hc
  have hr := reaches_of_exec h
  cases c
  case deviceReset p => exact absurd rfl (hreset p)
  case acceptance r => exact absurd rfl (haccept r)
  case send => exact absurd rfl hsend
  case issue => exact absurd rfl hissue
  case memoryAnswer m d => exact absurd rfl (hanswer m d)
  all_goals (dsimp only [reaches] at hr; rw [hr])

theorem State.slots_sendAnswer (s : State) : s.sendAnswer.slots = s.slots ∨ s.sendAnswer.slots = s.slots.tail := by
  unfold State.sendAnswer
  split
  · next x rest _ hslots =>
    split
    · exact .inr (by rw [hslots]; rfl)
    · exact .inl rfl
    · exact .inl rfl
  · exact .inl rfl

theorem State.slots_acceptRequest (s : State) (r : NpRequest) :
    (s.acceptRequest r).slots = s.slots ∨ ∃ x, (s.acceptRequest r).slots = s.slots ++ [x] := by
  unfold State.acceptRequest
  split
  · exact .inr ⟨_, congrArg (· ++ _) (State.judge_judged s.countAcceptance r (s.target r)).slots⟩
  · exact .inl rfl

/-- A slot apart from its state and answer. -/
def Slot.fixedPart (x : Slot) : Slot := { x with state := .waitIssue }

theorem map_fixedPart_markIssued : ∀ l : List Slot, (markIssued l).map Slot.fixedPart = l.map Slot.fixedPart
  | [] => rfl
  | x :: xs => by
    unfold markIssued
    split
    · rfl
    · rw [List.map_cons, List.map_cons, map_fixedPart_markIssued xs]

theorem map_fixedPart_answerSlot (n : Word) (a : AnswerStatus) (d : Word) (l : List Slot) :
    (l.map (answerSlot n a d)).map Slot.fixedPart = l.map Slot.fixedPart := by
  rw [List.map_map]
  refine List.map_congr_left fun x _ => ?_
  show (answerSlot n a d x).fixedPart = x.fixedPart
  unfold answerSlot
  split <;> rfl

theorem State.map_fixedPart_issueSlot (s : State) :
    s.issueSlot.slots.map Slot.fixedPart = s.slots.map Slot.fixedPart := by
  unfold State.issueSlot
  split
  · exact map_fixedPart_markIssued s.slots
  · rfl

theorem State.map_fixedPart_answerTqSlot (s : State) (n : Word) (r : FpRequest) (m : MemStatus) (d : Word) :
    (s.answerTqSlot n r m d).slots.map Slot.fixedPart = s.slots.map Slot.fixedPart := by
  by_cases hx : ∃ x ∈ s.slots, x.number = n ∧ x.state = .waitMemory
  · obtain ⟨x, hmem, hn, hwait⟩ := hx
    obtain ⟨a, v, hslots⟩ := State.answerTqSlot_slots hmem hn hwait r m d
    rw [hslots, map_fixedPart_answerSlot]
  · have hnone : (s.slots.find? fun x => decide (x.number = n) && decide (x.state = .waitMemory)) = none := by
      rw [List.find?_eq_none]
      intro x hmem hxn
      exact hx ⟨x, hmem, by simpa using hxn⟩
    rw [State.answerTqSlot, hnone]

theorem State.map_fixedPart_dispatch (s : State) (e : LogEntry) (m : MemStatus) (d : Word) :
    (s.dispatch e m d).slots.map Slot.fixedPart = s.slots.map Slot.fixedPart := by
  have hmemErr (o x a v) : (s.memErr o x a v).slots = s.slots := (s.memErr_judged o x a v).slots
  unfold State.dispatch
  split
  · exact s.map_fixedPart_answerTqSlot _ _ _ _
  · cases m
    · rfl
    · exact congrArg _ (hmemErr _ _ _ _)
  · cases m
    · rfl
    · exact congrArg _ (hmemErr _ _ _ _)
  · unfold State.answerRingRead
    split
    · rfl
    · split <;> rfl
  · rw [State.answerRingWrite_frame]

theorem State.map_fixedPart_memoryAnswer (s : State) (m : MemStatus) (d : Word) :
    (s.memoryAnswer m d).slots.map Slot.fixedPart = s.slots.map Slot.fixedPart := by
  unfold State.memoryAnswer
  split
  · exact State.map_fixedPart_dispatch _ _ _ _
  · unfold State.discardAnswer
    dsimp only
    split <;> rfl

/-! ## The causes (R145, R147) -/

/-- Every cause set in the first state is set in the second. -/
def State.CausesKept (s t : State) : Prop := s.causes &&& t.causes = s.causes

theorem State.CausesKept.of_eq (h : t.causes = s.causes) : s.CausesKept t := by
  rw [State.CausesKept, h, BitVec.and_self]

theorem State.CausesKept.of_or {x : Byte} (h : t.causes = s.causes ||| x) : s.CausesKept t := by
  rw [State.CausesKept, h]
  ext k hk
  simpa using fun hs => .inl hs

theorem State.CausesKept.of_start (h : t.CausesKept u) (heq : t.causes = s.causes) : s.CausesKept u := by
  rw [State.CausesKept, ← heq]
  exact h

theorem State.CausesKept.trans (h : s.CausesKept t) (h' : t.CausesKept u) : s.CausesKept u := by
  unfold State.CausesKept at *
  rw [← h, BitVec.and_assoc, h']

theorem State.createRecord_causesKept (s : State) (d : Detail) (x : Subject) (a v : Word) :
    s.CausesKept (s.createRecord d x a v) := by
  by_cases hoff : s.ringState = .off
  · exact .of_eq (by rw [State.createRecord_off hoff])
  · by_cases hroom : s.records.length < Config.recordPlaces
    · exact .of_eq (by rw [State.createRecord_joins hoff hroom])
    · rw [State.createRecord_discards hoff (Nat.le_of_not_lt hroom)]
      by_cases hlost : s.lost = 0
      · exact .of_or (if_pos hlost)
      · exact .of_eq (if_neg hlost)

theorem State.setCause_causesKept (s : State) (x : Byte) : s.CausesKept (s.setCause x) := .of_or rfl

theorem State.memErr_causesKept (s : State) (o : MemErrOrigin) (x : Subject) (a v : Word) :
    s.CausesKept (s.memErr o x a v) :=
  (s.createRecord_causesKept _ _ _ _).trans (State.setCause_causesKept _ _)

theorem State.Worked.causesKept (h : s.Worked t) : s.CausesKept t := by
  cases h with
  | record d x a v => exact s.createRecord_causesKept d x a v
  | cause x => exact s.setCause_causesKept x
  | staged g i v => exact .of_eq (by rw [State.stage_frame])
  | abandoned g x =>
    exact ((s.createRecord_causesKept _ _ _ _).trans (.of_eq rfl)).trans (State.setCause_causesKept _ _)
  | _ => exact .of_eq rfl

theorem State.WorkedTo.causesKept (h : s.WorkedTo t) : s.CausesKept t :=
  h.keeps (P := fun t => s.CausesKept t) (fun hw hs => hs.trans hw.causesKept) (.of_eq rfl)

theorem State.beginCommit_causesKept (s : State) (g : Fin 8) : s.CausesKept (s.beginCommit g) := by
  have hreport (u : State) (n : Nat) : u.CausesKept (u.reportCommit g n) := by
    unfold State.reportCommit
    split
    · exact u.createRecord_causesKept _ _ _ _
    · exact .of_eq rfl
  exact (hreport _ _).of_start rfl

theorem State.answerTqSlot_causesKept (s : State) (n : Word) (r : FpRequest) (m : MemStatus) (d : Word) :
    s.CausesKept (s.answerTqSlot n r m d) := by
  unfold State.answerTqSlot
  split
  · exact .of_eq rfl
  · split
    · unfold State.offerWrite
      split <;> exact .of_eq rfl
    · exact .of_eq rfl
    · exact (State.memErr_causesKept _ _ _ _ _).of_start rfl
    · exact (State.memErr_causesKept _ _ _ _ _).of_start rfl

theorem State.reportLoss_causesKept (s : State) : s.CausesKept s.reportLoss := by
  unfold State.reportLoss
  split
  · exact s.createRecord_causesKept _ _ _ _
  · exact .of_eq rfl

theorem State.answerRingWrite_causesKept (s : State) (w : Fin 4) (m : MemStatus) :
    s.CausesKept (s.answerRingWrite w m) := by
  unfold State.answerRingWrite
  split
  · exact .of_or rfl
  · split
    · exact .of_eq rfl
    · exact .of_eq rfl
    · exact .of_eq rfl
    · exact State.CausesKept.trans (.of_or rfl) (State.reportLoss_causesKept _)

theorem State.dispatch_causesKept (s : State) (e : LogEntry) (m : MemStatus) (d : Word) :
    s.CausesKept (s.dispatch e m d) := by
  unfold State.dispatch
  split
  · exact s.answerTqSlot_causesKept _ _ _ _
  · cases m
    · exact .of_eq rfl
    · exact s.memErr_causesKept _ _ _ _
  · cases m
    · exact .of_eq rfl
    · exact s.memErr_causesKept _ _ _ _
  · unfold State.answerRingRead
    split
    · exact .of_or rfl
    · split
      · exact .of_or rfl
      · exact .of_eq rfl
  · exact s.answerRingWrite_causesKept _ _

theorem State.tick_causesKept (s : State) : s.CausesKept s.tick := by
  unfold State.tick
  split
  · exact .of_eq rfl
  · exact s.tickEvent_workedTo.causesKept.of_start rfl

theorem State.deadlineExpiry_causesKept (s : State) (i : Fin 48) : s.CausesKept (s.deadlineExpiry i) := by
  unfold State.deadlineExpiry
  split
  · split
    · exact (s.expireEntry_workedTo i).causesKept
    · exact s.tick_causesKept
    · exact .of_eq rfl
  · exact .of_eq rfl

theorem State.timeoutExpiry_causesKept (s : State) (g : Fin 8) : s.CausesKept (s.timeoutExpiry g) := by
  unfold State.timeoutExpiry
  split
  · split
    · exact (s.expireGroup_workedTo g).causesKept
    · exact s.tick_causesKept
    · exact .of_eq rfl
  · exact .of_eq rfl

theorem State.acceptRequest_causesKept (s : State) (r : NpRequest) : s.CausesKept (s.acceptRequest r) := by
  unfold State.acceptRequest
  split
  · exact (s.judge_target_workedTo r).causesKept.of_start rfl
  · exact .of_eq rfl

theorem State.commitStart_causesKept (s : State) : s.CausesKept s.commitStart := by
  unfold State.commitStart
  split
  · next g _ => exact (s.beginCommit_causesKept g).trans (.of_eq (by rw [State.issueCommitWrite_frame]))
  · exact .of_eq rfl

theorem State.memoryAnswer_causesKept (s : State) (m : MemStatus) (d : Word) : s.CausesKept (s.memoryAnswer m d) := by
  unfold State.memoryAnswer
  split
  · exact (State.dispatch_causesKept _ _ _ _).of_start rfl
  · unfold State.discardAnswer
    dsimp only
    split
    · exact .of_eq rfl
    · exact .of_or rfl

theorem setModeAct_causesKept (s : State) (code : Byte) : s.CausesKept (setModeAct code s).1 := by
  have hmode (u : State) (m : Mode) : u.CausesKept { u with mode := m } := .of_eq rfl
  have hclear (u : State) : u.CausesKept u.clearMarks := .of_eq rfl
  have heffects (m : Mode) : s.CausesKept (s.modeEffects s.mode m) := by
    unfold State.modeEffects
    split
    · exact .of_eq rfl
    · exact .of_eq rfl
    · exact s.abandonOpen_workedTo.causesKept
    · exact s.abandonOpen_workedTo.causesKept.trans (hclear _)
    all_goals exact .of_eq rfl
  unfold setModeAct
  split
  · next m _ => exact (heffects m).trans (hmode _ m)
  · exact .of_eq rfl

theorem configGroupEnableAct_causesKept (s : State) (p : GroupPayload) :
    s.CausesKept (configGroupEnableAct p s).1 := by
  unfold configGroupEnableAct
  split
  · exact .of_eq rfl
  · split <;> exact .of_eq rfl

theorem configGroupDisableAct_causesKept (s : State) (p : GroupPayload) :
    s.CausesKept (configGroupDisableAct p s).1 := by
  unfold configGroupDisableAct
  split
  · exact .of_eq rfl
  · next g _ =>
    split
    · exact .of_eq rfl
    · exact (s.endRound_workedTo g).causesKept.trans (.of_eq rfl)

/-- A management command stays or takes its effect. -/
theorem exec_management_effect {code : Byte} {payload : List Byte} (hc : managementCommand c = some (code, payload))
    (h : exec c s = .next t) : t = s ∨ t = (managementAct c s).1.respond (managementAct c s).2 := by
  rcases exec_management_cases (s := s) hc with hstay | ⟨-, -, hact⟩
  · rw [hstay] at h; cases h; exact .inl rfl
  · rw [hact] at h; cases h; exact .inr rfl

/-- A set cause is cleared by ACK_ALERTS alone. -/
theorem exec_causesKept (h : exec c s = .next t) (hreset : ∀ p, c ≠ .deviceReset p) (hc : ∀ b, c ≠ .ackAlerts b) :
    s.CausesKept t := by
  have hr := reaches_of_exec h
  cases c
  case deviceReset p => exact absurd rfl (hreset p)
  case ackAlerts b => exact absurd rfl (hc b)
  case acceptance r => cases h; exact s.acceptRequest_causesKept r
  case commitStart => cases h; exact s.commitStart_causesKept
  case memoryAnswer m d => cases h; exact s.memoryAnswer_causesKept m d
  case tick => cases h; exact s.tick_causesKept
  case deadlineExpiry n =>
    cases h
    split
    · exact s.deadlineExpiry_causesKept _
    · exact .of_eq rfl
  case timeoutExpiry n =>
    cases h
    split
    · exact s.timeoutExpiry_causesKept _
    · exact .of_eq rfl
  case setMode code =>
    rcases exec_management_effect rfl h with rfl | rfl
    · exact .of_eq rfl
    · exact (setModeAct_causesKept s code).trans (.of_eq rfl)
  case configGroupEnable p =>
    rcases exec_management_effect rfl h with rfl | rfl
    · exact .of_eq rfl
    · exact (configGroupEnableAct_causesKept s p).trans (.of_eq rfl)
  case configGroupDisable p =>
    rcases exec_management_effect rfl h with rfl | rfl
    · exact .of_eq rfl
    · exact (configGroupDisableAct_causesKept s p).trans (.of_eq rfl)
  all_goals (dsimp only [reaches] at hr; exact .of_eq (by rw [hr]))

/-! ## What CONFIG_GROUP alone gives a group -/

/-- Two group records with one enable, timeout and report flag. -/
def Group.SameConfig (x y : Group) : Prop := y = { x with state := y.state, remaining := y.remaining, mark := y.mark }

theorem Group.SameConfig.refl (x : Group) : x.SameConfig x := rfl

theorem Group.SameConfig.trans {x y z : Group} (h : x.SameConfig y) (h' : y.SameConfig z) : x.SameConfig z := by
  unfold Group.SameConfig at *
  rw [h', h]

theorem Group.SameConfig.fields {x y : Group} (h : x.SameConfig y) :
    y.enabled = x.enabled ∧ y.timeout = x.timeout ∧ y.reportCommit = x.reportCommit := by
  rw [h]; exact ⟨rfl, rfl, rfl⟩

theorem State.sameConfig_setGroup {g : Fin 8} {x : Group} (h : (s.group g).SameConfig x) (k : Fin 8) :
    (s.group k).SameConfig ((s.setGroup g x).group k) := by
  rw [State.group_setGroup]
  split
  · next hg => subst hg; exact h
  · exact .refl _

theorem State.sameConfig_stage (s : State) (g : Fin 8) (i : Fin 48) (v : Int) (k : Fin 8) :
    (s.group k).SameConfig ((s.stage g i v).group k) := by
  have hset (x : Group) (hx : (s.group g).SameConfig x) :
      (s.group k).SameConfig (((s.setStaged i (some v)).setGroup g x).group k) :=
    State.sameConfig_setGroup (s := s.setStaged i (some v)) hx k
  unfold State.stage
  dsimp only
  split
  · exact .refl _
  · split
    · exact hset { s.group g with state := .commitWait, remaining := none, mark := some s.accepted } rfl
    · exact .refl _
  · split
    · exact hset { s.group g with state := .commitWait, remaining := none, mark := some s.accepted } rfl
    · exact hset { s.group g with state := .opened, remaining := some (s.group g).timeout } rfl

theorem State.Worked.sameConfig (h : s.Worked t) (g : Fin 8) : (s.group g).SameConfig (t.group g) := by
  cases h with
  | record d x a v => rw [State.group_createRecord]; exact .refl _
  | staged k i v => exact s.sameConfig_stage k i v g
  | abandoned k x =>
    rw [State.group_abandon]
    split <;> rfl
  | _ => exact .refl _

theorem State.WorkedTo.sameConfig (h : s.WorkedTo t) (g : Fin 8) : (s.group g).SameConfig (t.group g) :=
  h.keeps (P := fun t => (s.group g).SameConfig (t.group g)) (fun hw hs => hs.trans (hw.sameConfig g)) (.refl _)

/-- The two parts that only commands of the link change: a group's configuration, and an entry's place and rules. -/
structure State.SameTables (s t : State) : Prop where
  group : ∀ g, (s.group g).SameConfig (t.group g)
  entry : ∀ i, (s.entry i).SameSetup (t.entry i)

theorem State.SameTables.refl (s : State) : s.SameTables s := ⟨fun _ => .refl _, fun _ => .refl _⟩

theorem State.SameTables.trans (h : s.SameTables t) (h' : t.SameTables u) : s.SameTables u :=
  ⟨fun g => (h.group g).trans (h'.group g), fun i => (h.entry i).trans (h'.entry i)⟩

theorem State.SameTables.of_eq (hgroups : t.groups = s.groups) (hentries : t.entries = s.entries) : s.SameTables t :=
  ⟨fun g => by rw [State.group, State.group, hgroups]; exact .refl _,
    fun i => by rw [State.entry, State.entry, hentries]; exact .refl _⟩

theorem State.WorkedTo.sameTables (h : s.WorkedTo t) : s.SameTables t := ⟨h.sameConfig, h.sameSetup⟩

theorem State.tickEvent_sameTables (s : State) : s.SameTables s.tickEvent := by
  refine State.SameTables.trans ⟨fun g => ?_, fun i => ?_⟩ s.tickEvent_workedTo.sameTables
  · rw [State.group_tickCountdowns]
    unfold Group.tickDown
    split <;> rfl
  · rw [State.entry_tickCountdowns]
    exact Entry.sameSetup_tickDown _ _

theorem State.tick_sameTables (s : State) : s.SameTables s.tick := by
  unfold State.tick
  split
  · exact .refl s
  · exact s.tickEvent_sameTables

theorem State.deadlineExpiry_sameTables (s : State) (i : Fin 48) : s.SameTables (s.deadlineExpiry i) := by
  unfold State.deadlineExpiry
  split
  · split
    · exact (s.expireEntry_workedTo i).sameTables
    · exact s.tick_sameTables
    · exact .refl s
  · exact .refl s

theorem State.timeoutExpiry_sameTables (s : State) (g : Fin 8) : s.SameTables (s.timeoutExpiry g) := by
  unfold State.timeoutExpiry
  split
  · split
    · exact (s.expireGroup_workedTo g).sameTables
    · exact s.tick_sameTables
    · exact .refl s
  · exact .refl s

theorem State.acceptRequest_sameTables (s : State) (r : NpRequest) : s.SameTables (s.acceptRequest r) := by
  unfold State.acceptRequest
  split
  · exact ⟨(s.judge_target_workedTo r).sameConfig, (s.judge_target_workedTo r).sameSetup⟩
  · exact .of_eq rfl rfl

theorem State.commitStart_sameTables (s : State) : s.SameTables s.commitStart := by
  unfold State.commitStart
  split
  · next g _ =>
    refine ⟨fun k => ?_, fun i => ?_⟩
    · rw [State.group_issueCommitWrite, State.group_beginCommit]
      split <;> rfl
    · rw [State.entry_issueCommitWrite, State.entry_beginCommit]
      exact s.sameSetup_commitReference g i _
  · exact .refl s

theorem State.issueFallback_sameTables (s : State) : s.SameTables s.issueFallback := by
  unfold State.issueFallback
  split
  · next i _ =>
    refine ⟨fun g => ?_, s.entry_issueFallbackOf_sameSetup i⟩
    rw [s.issueFallbackOf_frame i]
    exact .refl _
  · exact .refl s

theorem State.changeMode_sameTables (s : State) (m : Mode) : s.SameTables (s.changeMode m) := by
  refine ⟨fun g => ?_, s.sameSetup_changeMode m⟩
  have hclear (u : State) : u.clearMarks.group g = u.group g := rfl
  show (s.group g).SameConfig ((s.modeEffects s.mode m).group g)
  unfold State.modeEffects
  split
  · exact .refl _
  · exact .refl _
  · exact s.abandonOpen_workedTo.sameConfig g
  · rw [hclear]; exact s.abandonOpen_workedTo.sameConfig g
  all_goals exact .refl _

theorem setModeAct_sameTables (s : State) (code : Byte) : s.SameTables (setModeAct code s).1 := by
  unfold setModeAct
  split
  · exact s.changeMode_sameTables _
  · exact .refl s

theorem State.sameTables_setEntry {i : Fin 48} {x : Entry} (h : (s.entry i).SameSetup x) : s.SameTables (s.setEntry i x) :=
  ⟨fun _ => .refl _, State.sameSetup_setEntry i h⟩

theorem onOccupied_sameTables (index : Byte) (act : Fin 48 → Entry → State × Response)
    (hact : ∀ i, s.SameTables (act i (s.entry i)).1) : s.SameTables (onOccupied index s act).1 := by
  unfold onOccupied
  split
  · exact .refl s
  · split
    · exact hact _
    · exact .refl s

theorem preloadReferenceAct_sameTables (s : State) (index : Byte) (v : Word) :
    s.SameTables (preloadReferenceAct index v s).1 :=
  onOccupied_sameTables index _ fun i => by
    split
    · exact State.sameTables_setEntry ⟨rfl, Iff.rfl⟩
    · exact .refl s

theorem forgetReferenceAct_sameTables (s : State) (index : Byte) : s.SameTables (forgetReferenceAct index s).1 :=
  onOccupied_sameTables index _ fun _ => State.sameTables_setEntry ⟨rfl, Iff.rfl⟩

theorem clearStickyAct_sameTables (s : State) (index flags : Byte) :
    s.SameTables (clearStickyAct index flags s).1 := by
  unfold clearStickyAct
  split
  · exact .refl s
  · exact onOccupied_sameTables index _ fun _ => State.sameTables_setEntry ⟨rfl, Iff.rfl⟩

theorem releaseEntryAct_sameTables (s : State) (index : Byte) : s.SameTables (releaseEntryAct index s).1 := by
  unfold releaseEntryAct
  split
  · exact .refl s
  · split
    · next hlatched => exact State.sameTables_setEntry (Entry.sameSetup_release hlatched _)
    · exact .refl s

/-- Beside the commands of the link that name an entry's place, its rules, or a group, none changes the two tables. -/
theorem exec_sameTables (h : exec c s = .next t) (hreset : ∀ p, c ≠ .deviceReset p) (hload : ∀ p, c ≠ .loadEntry p)
    (htune : ∀ p, c ≠ .tuneEntry p) (hfresh : ∀ p, c ≠ .setFresh p) (hretire : ∀ b, c ≠ .retireEntry b)
    (henable : ∀ p, c ≠ .configGroupEnable p) (hdisable : ∀ p, c ≠ .configGroupDisable p) : s.SameTables t := by
  have hr := reaches_of_exec h
  cases c
  case deviceReset p => exact absurd rfl (hreset p)
  case loadEntry p => exact absurd rfl (hload p)
  case tuneEntry p => exact absurd rfl (htune p)
  case setFresh p => exact absurd rfl (hfresh p)
  case retireEntry b => exact absurd rfl (hretire b)
  case configGroupEnable p => exact absurd rfl (henable p)
  case configGroupDisable p => exact absurd rfl (hdisable p)
  case acceptance r => cases h; exact s.acceptRequest_sameTables r
  case commitStart => cases h; exact s.commitStart_sameTables
  case fallbackIssue => cases h; exact s.issueFallback_sameTables
  case tick => cases h; exact s.tick_sameTables
  case deadlineExpiry n =>
    cases h
    split
    · exact s.deadlineExpiry_sameTables _
    · exact .refl s
  case timeoutExpiry n =>
    cases h
    split
    · exact s.timeoutExpiry_sameTables _
    · exact .refl s
  case setMode code =>
    rcases exec_management_effect rfl h with rfl | rfl
    · exact .refl _
    · exact (setModeAct_sameTables s code).trans (.of_eq rfl rfl)
  case preloadReference index v =>
    rcases exec_management_effect rfl h with rfl | rfl
    · exact .refl _
    · exact (preloadReferenceAct_sameTables s index v).trans (.of_eq rfl rfl)
  case forgetReference index =>
    rcases exec_management_effect rfl h with rfl | rfl
    · exact .refl _
    · exact (forgetReferenceAct_sameTables s index).trans (.of_eq rfl rfl)
  case clearSticky index flags =>
    rcases exec_management_effect rfl h with rfl | rfl
    · exact .refl _
    · exact (clearStickyAct_sameTables s index flags).trans (.of_eq rfl rfl)
  case releaseEntry index =>
    rcases exec_management_effect rfl h with rfl | rfl
    · exact .refl _
    · exact (releaseEntryAct_sameTables s index).trans (.of_eq rfl rfl)
  all_goals (dsimp only [reaches] at hr; exact .of_eq (by rw [hr]) (by rw [hr]))

/-! ## The entry under CONFIG_GROUP, TUNE_ENTRY and SET_FRESH -/

theorem exec_configGroup_sameSetup (h : exec c s = .next t)
    (hc : (∃ p, c = .configGroupEnable p) ∨ ∃ p, c = .configGroupDisable p) (i : Fin 48) :
    (s.entry i).SameSetup (t.entry i) := by
  rcases hc with ⟨p, rfl⟩ | ⟨p, rfl⟩
  · rcases exec_management_effect rfl h with rfl | rfl
    · exact .refl _
    · show (s.entry i).SameSetup ((configGroupEnableAct p s).1.entry i)
      unfold configGroupEnableAct
      split
      · exact .refl _
      · split <;> exact .refl _
  · rcases exec_management_effect rfl h with rfl | rfl
    · exact .refl _
    · show (s.entry i).SameSetup ((configGroupDisableAct p s).1.entry i)
      unfold configGroupDisableAct
      split
      · exact .refl _
      · split
        · exact .refl _
        · exact (s.endRound_workedTo _).sameSetup i

theorem tuneEntryAct_entry (s : State) (p : TunePayload) (j : Fin 48) :
    (tuneEntryAct p s).1.entry j = s.entry j ∨ ∃ a, (tuneEntryAct p s).1.entry j = tunedEntry p a (s.entry j) := by
  unfold tuneEntryAct
  split
  · next i a _ _ =>
    dsimp only
    split
    · exact .inl rfl
    · split
      · exact .inl rfl
      · split
        · rw [State.entry_setEntry]
          split
          · next hij => subst hij; exact .inr ⟨a, rfl⟩
          · exact .inl rfl
        · exact .inl rfl
  · exact .inl rfl

theorem setFreshAct_entry (s : State) (p : FreshPayload) (j : Fin 48) :
    (setFreshAct p s).1.entry j = s.entry j ∨
      (setFreshAct p s).1.entry j = (refreshedEntry p (s.entry j)).refreshed s.mode := by
  unfold setFreshAct
  split
  · exact .inl rfl
  · next i _ =>
    dsimp only
    split
    · exact .inl rfl
    · split
      · exact .inl rfl
      · split
        · exact .inl rfl
        · split
          · rw [State.entry_setEntry]
            split
            · next hij => subst hij; exact .inr rfl
            · exact .inl rfl
          · exact .inl rfl

/-! ## The parts of an entry, by the commands that change them -/

/-- An entry's place: its bytes, its type and its group (R2, R10). -/
def Entry.SamePlace (e e' : Entry) : Prop :=
  e'.address = e.address ∧ e'.width = e.width ∧ e'.signed = e.signed ∧ e'.group = e.group

/-- An entry's freshness: its period and its fallback value (R11). -/
def Entry.SameFreshness (e e' : Entry) : Prop := e'.period = e.period ∧ e'.fallback = e.fallback

/-- An entry's rules (R4 to R7). -/
def Entry.SameRules (e e' : Entry) : Prop :=
  e'.low = e.low ∧ e'.high = e.high ∧ e'.step = e.step ∧ e'.trip = e.trip ∧ e'.action = e.action ∧
    e'.mergePartial = e.mergePartial

theorem Entry.SameSetup.samePlace {e e' : Entry} (h : e.SameSetup e') : e.SamePlace e' :=
  ⟨h.address, h.width, h.signed, h.group⟩

theorem Entry.SameSetup.sameFreshness {e e' : Entry} (h : e.SameSetup e') : e.SameFreshness e' := ⟨h.period, h.fallback⟩

theorem Entry.SameSetup.sameRules {e e' : Entry} (h : e.SameSetup e') : e.SameRules e' :=
  ⟨h.low, h.high, h.step, h.trip, by rw [h.fields], by rw [h.fields]⟩

/-- The parts of an entry that a command other than LOAD_ENTRY and RETIRE_ENTRY leaves. -/
theorem exec_entry (h : exec c s = .next t) (hreset : ∀ p, c ≠ .deviceReset p)
    (hc : (∀ p, c ≠ .loadEntry p) ∧ ∀ b, c ≠ .retireEntry b) (i : Fin 48) :
    (s.entry i).SamePlace (t.entry i) ∧
      ((∀ p, c ≠ .setFresh p) → (s.entry i).SameFreshness (t.entry i)) ∧
      ((∀ p, c ≠ .tuneEntry p) → (s.entry i).SameRules (t.entry i)) := by
  have hsetup (hs : (s.entry i).SameSetup (t.entry i)) : (s.entry i).SamePlace (t.entry i) ∧
      ((∀ p, c ≠ .setFresh p) → (s.entry i).SameFreshness (t.entry i)) ∧
      ((∀ p, c ≠ .tuneEntry p) → (s.entry i).SameRules (t.entry i)) :=
    ⟨hs.samePlace, fun _ => hs.sameFreshness, fun _ => hs.sameRules⟩
  by_cases hgroup : (∃ p, c = .configGroupEnable p) ∨ ∃ p, c = .configGroupDisable p
  · exact hsetup (exec_configGroup_sameSetup h hgroup i)
  by_cases htune : ∃ p, c = .tuneEntry p
  · obtain ⟨p, rfl⟩ := htune
    rcases exec_management_effect rfl h with rfl | rfl
    · exact hsetup (.refl _)
    · rcases tuneEntryAct_entry s p i with he | ⟨a, he⟩
      · exact hsetup (by show (s.entry i).SameSetup ((tuneEntryAct p s).1.entry i); rw [he]; exact .refl _)
      · have ht : ((managementAct (.tuneEntry p) s).1.respond (managementAct (.tuneEntry p) s).2).entry i =
          tunedEntry p a (s.entry i) := he
        rw [ht]
        exact ⟨⟨rfl, rfl, rfl, rfl⟩, fun _ => ⟨rfl, rfl⟩, fun hne => absurd rfl (hne p)⟩
  by_cases hfresh : ∃ p, c = .setFresh p
  · obtain ⟨p, rfl⟩ := hfresh
    rcases exec_management_effect rfl h with rfl | rfl
    · exact hsetup (.refl _)
    · rcases setFreshAct_entry s p i with he | he
      · exact hsetup (by show (s.entry i).SameSetup ((setFreshAct p s).1.entry i); rw [he]; exact .refl _)
      · have ht : ((managementAct (.setFresh p) s).1.respond (managementAct (.setFresh p) s).2).entry i =
          (refreshedEntry p (s.entry i)).refreshed s.mode := he
        rw [ht, Entry.refreshed_frame]
        exact ⟨⟨rfl, rfl, rfl, rfl⟩, fun hne => absurd rfl (hne p), fun _ => ⟨rfl, rfl, rfl, rfl, rfl, rfl⟩⟩
  · exact hsetup ((exec_sameTables h hreset hc.1 (fun p hp => htune ⟨p, hp⟩) (fun p hp => hfresh ⟨p, hp⟩) hc.2
      (fun p hp => hgroup (.inl ⟨p, hp⟩)) fun p hp => hgroup (.inr ⟨p, hp⟩)).entry i)

theorem exec_group (h : exec c s = .next t) (hreset : ∀ p, c ≠ .deviceReset p)
    (hc : (∀ p, c ≠ .configGroupEnable p) ∧ ∀ p, c ≠ .configGroupDisable p) (g : Fin 8) :
    (t.group g).enabled = (s.group g).enabled ∧ (t.group g).timeout = (s.group g).timeout ∧
      (t.group g).reportCommit = (s.group g).reportCommit := by
  by_cases hentry : (∃ p, c = .loadEntry p) ∨ (∃ p, c = .tuneEntry p) ∨ (∃ p, c = .setFresh p) ∨ ∃ b, c = .retireEntry b
  · have hgroups : t.groups = s.groups := by
      have hr := reaches_of_exec h
      rcases hentry with ⟨p, rfl⟩ | ⟨p, rfl⟩ | ⟨p, rfl⟩ | ⟨b, rfl⟩ <;> (dsimp only [reaches] at hr; rw [hr])
    rw [State.group, State.group, hgroups]
    exact ⟨rfl, rfl, rfl⟩
  · have hload (p : LoadPayload) (hp : c = .loadEntry p) : False := hentry (.inl ⟨p, hp⟩)
    have htune (p : TunePayload) (hp : c = .tuneEntry p) : False := hentry (.inr (.inl ⟨p, hp⟩))
    have hfresh (p : FreshPayload) (hp : c = .setFresh p) : False := hentry (.inr (.inr (.inl ⟨p, hp⟩)))
    have hretire (b : Byte) (hp : c = .retireEntry b) : False := hentry (.inr (.inr (.inr ⟨b, hp⟩)))
    exact ((exec_sameTables h hreset hload htune hfresh hretire hc.1 hc.2).group g).fields

/-- Settles O37, clause by clause. -/
theorem registersChangeOnlyByTheirCommands : Obligations.RegistersChangeOnlyByTheirCommands := by
  intro c s t h hreset
  refine ⟨exec_tickCounter h hreset, exec_mode h hreset, exec_mask h hreset, exec_tickLength h hreset,
    exec_accepted h hreset, exec_ringPlace h hreset, exec_causesKept h hreset, exec_slots h hreset, ?_, ?_, ?_,
    exec_group h hreset, exec_entry h hreset⟩
  · rintro rfl; cases h; exact s.slots_sendAnswer
  · rintro ⟨r, rfl⟩; cases h; exact s.slots_acceptRequest r
  · rintro (rfl | ⟨m, d, rfl⟩)
    · cases h; exact s.map_fixedPart_issueSlot
    · cases h; exact s.map_fixedPart_memoryAnswer m d

end Sys2Proof.Machine
end

section
/-! SUPPORT. Acceptance: the class of a request, and what its judgement can reach (R23, R25, R26, R75 to R77). -/

namespace Sys2Proof.Machine

variable {s : State} {r : NpRequest}

/-! ## The width and the malformed requests (R26) -/

theorem requestWidth_bytes (h : r.wcode ≠ 3) : (requestWidth r).bytes = 2 ^ r.wcode.toNat := by
  have hcode : ∀ c : BitVec 2, c ≠ 3 → (Width.ofCode c).bytes = 2 ^ c.toNat := by decide
  exact hcode r.wcode h

theorem malformedRequest_iff :
    malformedRequest r = true ↔ r.wcode = 3 ∨ r.address.toNat % 2 ^ r.wcode.toNat ≠ 0 := by
  by_cases h : r.wcode = 3
  · simp [malformedRequest, h]
  · simp [malformedRequest, requestWidth_bytes h]

theorem wcode_of_not_malformed (h : malformedRequest r = false) : r.wcode ≠ 3 := fun hw => by
  rw [malformedRequest_iff.mpr (.inl hw)] at h; cases h

theorem State.target_malformed (h : malformedRequest r = true) : s.target r = .malformed := by
  rw [State.target, if_pos h]

/-! ## The covered entries (R23) -/

/-- The entries that a request covers, in ascending index. -/
def State.coveredBy (s : State) (r : NpRequest) : List (Fin 48) :=
  s.coveredEntries r.address.toNat (requestWidth r).bytes

theorem State.mem_coveredBy (h : malformedRequest r = false) {i : Fin 48} : i ∈ s.coveredBy r ↔ s.covers r i := by
  rw [State.coveredBy, State.mem_coveredEntries, requestWidth_bytes (wcode_of_not_malformed h)]

theorem State.pairwise_coveredBy (s : State) (r : NpRequest) : (s.coveredBy r).Pairwise (fun i j => i < j) := by
  unfold State.coveredBy State.coveredEntries
  exact (List.pairwise_lt_finRange 48).filter _

/-- The covered entries in ascending index are one list. -/
theorem State.eq_coveredBy_iff (h : malformedRequest r = false) {is : List (Fin 48)} :
    is = s.coveredBy r ↔ is.Pairwise (fun i j => i < j) ∧ ∀ i, i ∈ is ↔ s.covers r i := by
  constructor
  · rintro rfl
    exact ⟨s.pairwise_coveredBy r, fun i => State.mem_coveredBy h⟩
  · rintro ⟨hpair, hmem⟩
    have hnodup (l : List (Fin 48)) (hl : l.Pairwise (fun i j => i < j)) : l.Nodup := hl.imp fun hij => Fin.ne_of_lt hij
    have hperm : is.Perm (s.coveredBy r) := (List.perm_ext_iff_of_nodup (hnodup _ hpair)
      (hnodup _ (s.pairwise_coveredBy r))).mpr fun i => (hmem i).trans (State.mem_coveredBy h).symm
    exact hperm.eq_of_pairwise (fun i j _ _ hij hji => absurd hij (by omega)) hpair (s.pairwise_coveredBy r)

/-- One entry alone is covered. -/
theorem State.coveredBy_eq_singleton (h : malformedRequest r = false) {i : Fin 48} :
    s.coveredBy r = [i] ↔ s.covers r i ∧ ∀ j, s.covers r j → j = i := by
  constructor
  · intro hi
    have hmem (j : Fin 48) : s.covers r j ↔ j = i := by rw [← State.mem_coveredBy h, hi]; simp
    exact ⟨(hmem i).mpr rfl, fun j hj => (hmem j).mp hj⟩
  · rintro ⟨hi, hunique⟩
    refine ((State.eq_coveredBy_iff h).mpr ⟨by simp, fun j => ?_⟩).symm
    rw [List.mem_singleton]
    exact ⟨fun hj => hj ▸ hi, hunique j⟩

/-! ## The classes (R23) -/

theorem State.target_of_wellFormed (h : malformedRequest r = false) :
    s.target r = match s.coveredBy r with
      | [] => .unwatched
      | [i] => oneCovered r i (s.entry i)
      | i :: j :: rest => .straddling (i :: j :: rest) := by
  rw [State.target, if_neg (by simp [h])]
  rfl

theorem oneCovered_exact {i j : Fin 48} {e : Entry} :
    oneCovered r i e = .exact j ↔ i = j ∧ r.address = e.address ∧ requestWidth r = e.width := by
  unfold oneCovered
  split
  · next h => simp [h]
  · next h => split <;> simp_all

theorem oneCovered_partialTo {i j : Fin 48} {e : Entry} : oneCovered r i e = .partialTo j ↔
    i = j ∧ e.address.toNat ≤ r.address.toNat ∧
      r.address.toNat + (requestWidth r).bytes ≤ e.address.toNat + e.width.bytes ∧
      (requestWidth r).bytes < e.width.bytes := by
  unfold oneCovered
  split
  · next h => simp [h]
  · split
    · next h => simp_all [rangeInside]
    · next h => simp_all [rangeInside]

theorem oneCovered_cases (r : NpRequest) (i : Fin 48) (e : Entry) :
    oneCovered r i e = .exact i ∨ oneCovered r i e = .partialTo i ∨ oneCovered r i e = .straddling [i] := by
  unfold oneCovered
  split
  · exact .inl rfl
  · split
    · exact .inr (.inl rfl)
    · exact .inr (.inr rfl)

theorem Width.bytes_injective {v w : Width} : v = w ↔ v.bytes = w.bytes := by
  cases v <;> cases w <;> decide

theorem State.target_unwatched (h : malformedRequest r = false) :
    s.target r = .unwatched ↔ ∀ i, ¬ s.covers r i := by
  have hnone : (∀ i, ¬ s.covers r i) ↔ s.coveredBy r = [] := by
    rw [List.eq_nil_iff_forall_not_mem]
    exact forall_congr' fun i => not_congr (State.mem_coveredBy h).symm
  rw [hnone, State.target_of_wellFormed h]
  split
  · next hl => simp [hl]
  · next i hl =>
    rcases oneCovered_cases r i (s.entry i) with hc | hc | hc <;> simp [hc, hl]
  · next hl => simp [hl]

/-- A request's class is that of its one covered entry. -/
theorem State.target_eq_one (h : malformedRequest r = false) {i : Fin 48} {t : Target}
    (ht : t = .exact i ∨ t = .partialTo i) :
    s.target r = t ↔ (s.covers r i ∧ ∀ j, s.covers r j → j = i) ∧ oneCovered r i (s.entry i) = t := by
  rw [← State.coveredBy_eq_singleton h, State.target_of_wellFormed h]
  split
  · next hl => rcases ht with rfl | rfl <;> simp [hl]
  · next j hl =>
    constructor
    · intro hj
      have hji : j = i := by
        rcases ht with rfl | rfl
        · exact (oneCovered_exact.mp hj).1
        · exact (oneCovered_partialTo.mp hj).1
      subst hji
      exact ⟨hl, hj⟩
    · rintro ⟨hi, ho⟩
      rw [hl] at hi
      cases hi
      exact ho
  · next hl => rcases ht with rfl | rfl <;> simp [hl]

theorem State.target_exact (h : malformedRequest r = false) (i : Fin 48) :
    s.target r = .exact i ↔ s.covers r i ∧ (∀ j, s.covers r j → j = i) ∧
      r.address = (s.entry i).address ∧ 2 ^ r.wcode.toNat = (s.entry i).width.bytes := by
  rw [State.target_eq_one h (.inl rfl), oneCovered_exact, Width.bytes_injective,
    requestWidth_bytes (wcode_of_not_malformed h), and_assoc]
  simp only [true_and]

theorem State.target_partialTo (h : malformedRequest r = false) (i : Fin 48) :
    s.target r = .partialTo i ↔ s.covers r i ∧ (∀ j, s.covers r j → j = i) ∧
      (s.entry i).address.toNat ≤ r.address.toNat ∧
      r.address.toNat + 2 ^ r.wcode.toNat ≤ (s.entry i).address.toNat + (s.entry i).width.bytes ∧
      2 ^ r.wcode.toNat < (s.entry i).width.bytes := by
  rw [State.target_eq_one h (.inr rfl), oneCovered_partialTo, requestWidth_bytes (wcode_of_not_malformed h), and_assoc]
  simp only [true_and]

/-- Every covered class that is neither exact nor partial is a straddle of all the covered entries. -/
theorem State.target_straddling (h : malformedRequest r = false) (is : List (Fin 48)) :
    s.target r = .straddling is ↔ is ≠ [] ∧ is = s.coveredBy r ∧
      ∀ i, s.target r ≠ .exact i ∧ s.target r ≠ .partialTo i := by
  rw [State.target_of_wellFormed h]
  split
  · next hl => rw [hl]; simp
  · next i hl =>
    rw [hl]
    rcases oneCovered_cases r i (s.entry i) with hc | hc | hc
    · simp [hc]
    · simp [hc]
    · simp only [hc, Target.straddling.injEq]
      constructor
      · rintro rfl; simp
      · rintro ⟨-, rfl, -⟩; rfl
  · next hl =>
    rw [hl, Target.straddling.injEq]
    constructor
    · rintro rfl; simp
    · rintro ⟨-, rfl, -⟩; rfl

theorem State.target_eq_malformed : s.target r = .malformed ↔ malformedRequest r = true := by
  constructor
  · intro ht
    refine Classical.byContradiction fun hm => ?_
    have hm : malformedRequest r = false := by simpa using hm
    rw [State.target_of_wellFormed hm] at ht
    split at ht
    · cases ht
    · next i _ => rcases oneCovered_cases r i (s.entry i) with hc | hc | hc <;> rw [hc] at ht <;> cases ht
    · cases ht
  · exact State.target_malformed

theorem not_malformed_of_target (h : s.target r ≠ .malformed) : malformedRequest r = false := by
  simpa using fun hm => h (State.target_malformed hm)

/-- Settles O7, class by class. -/
theorem requestsClassifiedByCoveredEntries : Obligations.RequestsClassifiedByCoveredEntries := by
  refine ⟨fun i is => ⟨⟨rfl, rfl⟩, ⟨rfl, rfl⟩, ⟨rfl, rfl⟩, ⟨rfl, rfl⟩, ⟨rfl, rfl⟩⟩, fun r s =>
    ⟨State.target_eq_malformed.trans malformedRequest_iff, fun h => ?_⟩⟩
  have hm := not_malformed_of_target h
  refine ⟨State.target_unwatched hm, State.target_exact hm, State.target_partialTo hm, fun is => ?_⟩
  rw [State.target_straddling hm, State.eq_coveredBy_iff hm, and_assoc]

/-! ## An acceptance (R25, R75, R76) -/

theorem exec_acceptance_full (h : s.accepts = false) : exec (.acceptance r) s = .next { s with presented := some r } := by
  rw [exec_acceptance, State.acceptRequest, if_neg (by simp [h])]

/-- The slot that an acceptance fills. -/
def State.acceptedSlot (s : State) (r : NpRequest) : Slot :=
  slotOf s.acceptCount r (s.target r) (s.countAcceptance.judge r (s.target r)).2

theorem exec_acceptance_judged (h : s.hasRoom) : exec (.acceptance r) s =
    .next { (s.countAcceptance.judge r (s.target r)).1 with slots := s.slots ++ [s.acceptedSlot r] } := by
  have hslots := (s.countAcceptance.judge_judged r (s.target r)).slots
  rw [exec_acceptance, State.acceptRequest, if_pos (State.accepts_of_hasRoom h)]
  dsimp only
  rw [hslots]
  rfl

@[simp] theorem slotOf_tag (n : Word) (r : NpRequest) (x : Target) (v : Verdict) : (slotOf n r x v).tag = r.tag := by
  cases v <;> rfl

@[simp] theorem slotOf_op (n : Word) (r : NpRequest) (x : Target) (v : Verdict) : (slotOf n r x v).op = r.op := by
  cases v <;> rfl

theorem State.JudgedFrom.sameOutsideJudgement {t : State} (h : s.JudgedFrom t) (slots : List Slot) :
    s.sameOutsideJudgement { t with slots := slots } := by
  unfold State.sameOutsideJudgement
  rw [h]
  exact ⟨rfl, rfl, rfl, rfl, rfl, rfl, rfl, rfl, rfl, rfl, rfl, rfl, rfl, rfl, rfl, rfl, rfl, rfl, rfl, rfl, rfl, rfl, rfl⟩

/-- Settles O6: the judgement reaches only the tables, the records and the causes. -/
theorem acceptanceTakesTheYoungestSlot : Obligations.AcceptanceTakesTheYoungestSlot := by
  refine fun r s => ⟨fun hfull => exec_acceptance_full ?_, fun hroom => ?_⟩
  · have hlt : ¬ s.slots.length < Config.tqSlots := Nat.not_lt.mpr hfull
    simp [State.accepts, hlt]
  · have hj := s.countAcceptance.judge_judged r (s.target r)
    refine ⟨_, s.acceptedSlot r, exec_acceptance_judged hroom, hj.sameOutsideJudgement _, ?_, hj.accepted, rfl,
      slotOf_number _ _ _ _, slotOf_tag _ _ _ _, slotOf_op _ _ _ _, slotOf_state _ _ _ _⟩
    dsimp only
    rw [hj]
    rfl

end Sys2Proof.Machine
end

section
/-! SUPPORT. The judgement in closed form: what each class of write leaves, and the slot it fills (R26 to R47). -/

namespace Sys2Proof.Machine

variable {s u : State} {r : NpRequest} {i : Fin 48} {v : Int} {own : Bool}

/-! ## The slots beside the writes of a judgement -/

/-- The state with these slots. -/
def State.withSlots (s : State) (l : List Slot) : State := { s with slots := l }

theorem State.withSlots_countAcceptance (s : State) (x : Slot) :
    s.countAcceptance.withSlots (s.slots ++ [x]) = s.acceptedWith x := rfl

theorem State.createRecord_withSlots (s : State) (l : List Slot) (d : Detail) (x : Subject) (a v : Word) :
    (s.withSlots l).createRecord d x a v = (s.createRecord d x a v).withSlots l := by
  cases h : s.ringState <;> simp only [State.createRecord, State.withSlots, State.countLost, h] <;> split <;> rfl

theorem State.reportAll_withSlots (l : List Slot) :
    ∀ (xs : List Report) (s : State), (s.withSlots l).reportAll xs = (s.reportAll xs).withSlots l
  | [], _ => rfl
  | x :: xs, s => by
    rw [State.reportAll_cons, State.createRecord_withSlots, State.reportAll_withSlots l xs, State.reportAll_cons]

theorem State.violationReported_withSlots (s : State) (l : List Slot) (is : List (Fin 48)) (flags : BitVec 6)
    (x : Report) : (s.withSlots l).violationReported is flags x = (s.violationReported is flags x).withSlots l := by
  have htrips : (s.withSlots l).tripReports is flags x.value = s.tripReports is flags x.value := rfl
  unfold State.violationReported
  dsimp only
  rw [htrips, State.reportAll_withSlots]
  rfl

theorem State.afterViolation_withSlots (s : State) (l : List Slot) (i : Fin 48) (flags : BitVec 6) (x : Report) :
    (s.withSlots l).afterViolation i flags x = (s.afterViolation i flags x).withSlots l := by
  unfold State.afterViolation
  rw [State.violationReported_withSlots]
  rfl

theorem slotOf_forward (s : State) (r : NpRequest) (t : Target) (w : BitVec 2) (a d : Word) :
    slotOf s.acceptCount r t (.forward w a d) = forwardSlot s r t.cls t.covered w a d := rfl

theorem slotOf_answer (hop : r.op = .write) (s : State) (t : Target) (a : AnswerStatus) (d : Word) :
    slotOf s.acceptCount r t (.answer a d) = localSlot s r t.cls t.covered r.data a d := by
  simp [slotOf, localSlot, requestData, hop, State.acceptCount]

/-- An acceptance whose class and judgement are known. -/
theorem exec_acceptance_of_judge (hroom : s.hasRoom) {t : Target} (ht : s.target r = t) {x : Verdict}
    (hj : s.countAcceptance.judge r t = (u, x)) :
    exec (.acceptance r) s = .next (u.withSlots (s.slots ++ [slotOf s.acceptCount r t x])) := by
  subst ht
  rw [exec_acceptance_judged hroom, State.acceptedSlot, hj]
  rfl

/-! ## One violation (R31, R32, R43, R47) -/

theorem State.setCause_setCause (s : State) (c d : Byte) : (s.setCause c).setCause d = s.setCause (c ||| d) := by
  simp [State.setCause, BitVec.or_assoc]

theorem State.setEntry_setEntry (s : State) (i : Fin 48) (e e' : Entry) :
    (s.setEntry i e).setEntry i e' = s.setEntry i e' := by
  simp [State.setEntry]

theorem State.tripReports_singleton (s : State) (i : Fin 48) (flags : BitVec 6) (v : Word) :
    s.tripReports [i] flags v = if ((s.entry i).violated flags).trips then
      [{ detail := .trip ((s.entry i).violated flags).violations, subject := .entry i
         address := (s.entry i).address, value := v }] else [] := by
  unfold State.tripReports
  simp only [List.filterMap_cons, List.filterMap_nil]
  split <;> simp_all

theorem Entry.tripTest_iff (e : Entry) : e.tripTest = true ↔ e.trips := by
  simp [Entry.tripTest, and_assoc]

theorem State.setEntry_setCause (s : State) (i : Fin 48) (e : Entry) (c : Byte) :
    (s.setEntry i e).setCause c = (s.setCause c).setEntry i e := rfl

theorem State.tripIfDue_of_trips {v : Word} (h : (s.entry i).trips) : s.tripIfDue v i =
    ((s.createRecord (.trip (s.entry i).violations) (.entry i) (s.entry i).address v).setCause causeTrip).setEntry i
      (s.entry i).latch := by
  unfold State.tripIfDue
  dsimp only
  rw [if_pos ((s.entry i).tripTest_iff.mpr h), State.createRecord_setEntry, State.setEntry_setCause]

theorem State.tripIfDue_of_not_trips {v : Word} (h : ¬ (s.entry i).trips) : s.tripIfDue v i = s := by
  unfold State.tripIfDue
  dsimp only
  rw [if_neg fun ht => h ((s.entry i).tripTest_iff.mp ht)]

/-- The model's violation of one entry, in the order of its writes, is the one that the statements describe. -/
theorem State.violate_eq (s : State) (i : Fin 48) (flags : BitVec 6) (d : Detail) (a v : Word) :
    s.violate i flags d a v =
      s.afterViolation i flags { detail := d, subject := .entry i, address := a, value := v } := by
  have hcounted : (s.entry i).countViolation flags = (s.entry i).violated flags := rfl
  have hself (t : State) (e : Entry) : (t.setEntry i e).entry i = e := t.entry_setEntry_self i e
  unfold State.violate State.countAgainst State.afterViolation State.violationReported
  dsimp only
  rw [hcounted, State.createRecord_setEntry, State.setEntry_setCause, State.tripReports_singleton]
  by_cases htrips : ((s.entry i).violated flags).trips
  · rw [State.tripIfDue_of_trips (by rw [hself]; exact htrips), hself, if_pos htrips, Entry.counted, if_pos htrips,
      State.createRecord_setEntry, State.createRecord_setCause, State.setEntry_setCause, State.setEntry_setEntry,
      State.setCause_setCause]
    rfl
  · rw [State.tripIfDue_of_not_trips (by rw [hself]; exact htrips), if_neg htrips, Entry.counted, if_neg htrips]
    rfl

/-! ## What a violation leaves (R25) -/

theorem State.violationReported_judged (s : State) (is : List (Fin 48)) (flags : BitVec 6) (x : Report) :
    s.JudgedFrom (s.violationReported is flags x) :=
  (s.reportAll_judged _).trans (State.setCause_judged _ _)

@[simp] theorem State.entry_reportAll (i : Fin 48) : ∀ (l : List Report) (s : State), (s.reportAll l).entry i = s.entry i
  | [], _ => rfl
  | x :: l, s => by rw [State.reportAll_cons, State.entry_reportAll i l, State.entry_createRecord]

@[simp] theorem State.group_reportAll (g : Fin 8) : ∀ (l : List Report) (s : State), (s.reportAll l).group g = s.group g
  | [], _ => rfl
  | x :: l, s => by rw [State.reportAll_cons, State.group_reportAll g l, State.group_createRecord]

theorem State.entry_afterViolation (s : State) (i j : Fin 48) (flags : BitVec 6) (x : Report) :
    (s.afterViolation i flags x).entry j = if i = j then (s.entry j).counted flags else s.entry j := by
  unfold State.afterViolation State.violationReported
  rw [State.entry_setEntry]
  split
  · next hij => subst hij; rfl
  · simp

theorem State.group_afterViolation (s : State) (i : Fin 48) (flags : BitVec 6) (x : Report) (g : Fin 8) :
    (s.afterViolation i flags x).group g = s.group g := by
  simp [State.afterViolation, State.violationReported]

theorem State.mode_afterViolation (s : State) (i : Fin 48) (flags : BitVec 6) (x : Report) :
    (s.afterViolation i flags x).mode = s.mode :=
  ((s.violationReported_judged [i] flags x).trans (State.setEntry_judged _ _ _)).mode

theorem State.enabledGroup_afterViolation (s : State) (i : Fin 48) (flags : BitVec 6) (x : Report) (e : Entry) :
    (s.afterViolation i flags x).enabledGroup e = s.enabledGroup e := by
  unfold State.enabledGroup
  cases e.group <;> simp [State.group_afterViolation]

/-! ## Whole values (R29 to R37) -/

theorem State.admitWrite_ungrouped (h : s.enabledGroup (s.entry i) = none) : s.admitWrite r i v own =
    (s.setEntry i ((s.entry i).admitted v),
      if s.mode = .enforce ∧ own = false then
        .forward (s.entry i).width.code (s.entry i).address (valueData (s.entry i).width v)
      else forwardPresented r) := by
  simp only [State.admitWrite, h, Entry.admitted_eq]

theorem State.admitWrite_grouped {g : Fin 8} (h : s.enabledGroup (s.entry i) = some g) :
    s.admitWrite r i v own = (s.stage g i v, .answer .done 0) := by
  simp only [State.admitWrite, h]

theorem State.judgeValue_conforming (h : ((s.entry i).checks v).any = false) :
    s.judgeValue r i v own = s.admitWrite r i v own := by
  simp [State.judgeValue, h]

/-- The violation of a judged value, in every mode and under every action. -/
theorem State.judgeValue_violating (h : ((s.entry i).checks v).any = true) :
    s.judgeValue r i v own =
      match s.applied i with
      | .pass => (s.afterViolation i ((s.entry i).checks v).sticky (s.limitReport i v (s.applied i))).admitWrite r i v own
      | .clamp => (s.afterViolation i ((s.entry i).checks v).sticky (s.limitReport i v (s.applied i))).admitWrite r i
          ((s.entry i).clamped v) false
      | .hold => (s.afterViolation i ((s.entry i).checks v).sticky (s.limitReport i v (s.applied i)), .answer .done 0)
      | .deny => (s.afterViolation i ((s.entry i).checks v).sticky (s.limitReport i v (s.applied i)), .answer .denied 0) := by
  have happlied : s.appliedAction (s.entry i) = s.applied i := rfl
  unfold State.judgeValue
  dsimp only
  rw [if_pos h, State.violate_eq, happlied]
  rfl

/-- A violating value that is admitted goes on from its violation. -/
theorem State.judgeValue_admits (h : ((s.entry i).checks v).any = true) {w : Int} {own' : Bool}
    (ha : s.admits i v own w own') : s.judgeValue r i v own =
      (s.afterViolation i ((s.entry i).checks v).sticky (s.limitReport i v (s.applied i))).admitWrite r i w own' := by
  rw [State.judgeValue_violating h]
  rcases ha with ⟨hpass, rfl, rfl⟩ | ⟨hclamp, rfl, rfl⟩
  · rw [hpass]
  · rw [hclamp]

/-! ## The judgement of a write by mode and class -/

theorem State.judge_write (hop : r.op = .write) {t : Target} (ht : t ≠ .malformed) : s.judge r t = s.judgeWrite r t := by
  cases t <;> simp_all [State.judge]

theorem State.judgeWrite_bypass (h : s.mode = .bypass) (t : Target) : s.judgeWrite r t = s.judgeBypass r t := by
  simp [State.judgeWrite, h]

theorem State.judgeWrite_guarded (h : s.mode ≠ .bypass) (t : Target) : s.judgeWrite r t = s.judgeGuarded r t := by
  cases hm : s.mode <;> simp_all [State.judgeWrite]

theorem State.judge_guarded (hop : r.op = .write) (hmode : s.mode ≠ .bypass) {t : Target} (ht : t ≠ .malformed) :
    s.judge r t = s.judgeGuarded r t := by
  rw [State.judge_write hop ht, State.judgeWrite_guarded hmode]

theorem State.latchedCheck_iff : s.latchedCheck i = true ↔ s.mode = .enforce ∧ (s.entry i).state = .latched := by
  simp [State.latchedCheck]

theorem State.judge_partial_write (hop : r.op = .write) (hmode : s.mode ≠ .bypass)
    (hlatched : ¬ (s.mode = .enforce ∧ (s.entry i).state = .latched)) :
    s.judge r (.partialTo i) = match (s.entry i).mergePartial, s.partialBase i with
      | true, some base => s.judgeValue r i (mergedValue (s.entry i) r base) false
      | _, _ => s.partialViolation r i := by
  rw [State.judge_guarded hop hmode (by simp)]
  exact if_neg fun h => hlatched (State.latchedCheck_iff.mp h)

/-- A write judged on a whole value is an exact one on its own value or a merged partial one. -/
theorem State.judgedWhole.judge (h : s.judgedWhole r i v own) :
    s.countAcceptance.judge r (s.target r) = s.countAcceptance.judgeValue r i v own := by
  obtain ⟨hroom, hop, hmode, hlatched, hwhole⟩ := h
  rcases hwhole with ⟨ht, rfl, rfl⟩ | ⟨ht, rfl, hmerge, b, hb, rfl⟩
  · rw [ht]
    exact State.judge_exact_write hop hmode hlatched
  · have hmerge' : (s.countAcceptance.entry i).mergePartial = true := hmerge
    have hb' : s.countAcceptance.partialBase i = some b := hb
    rw [ht, State.judge_partial_write (s := s.countAcceptance) hop hmode hlatched, hmerge', hb']
    rfl

theorem State.judgedWhole.covered (h : s.judgedWhole r i v own) : (s.target r).covered = some i := by
  obtain ⟨-, -, -, -, hwhole⟩ := h
  rcases hwhole with ⟨ht, -⟩ | ⟨ht, -⟩ <;> rw [ht] <;> rfl

theorem State.judgedWhole.hasRoom (h : s.judgedWhole r i v own) : s.hasRoom := h.1

theorem State.judgedWhole.op (h : s.judgedWhole r i v own) : r.op = .write := h.2.1

/-- The slot of an admitted whole value that is forwarded. -/
theorem State.judgedWhole.slot_forwarded (h : s.judgedWhole r i v own) (w : Int) (own' : Bool) :
    slotOf s.acceptCount r (s.target r) (if s.mode = .enforce ∧ own' = false then
        .forward (s.entry i).width.code (s.entry i).address (valueData (s.entry i).width w)
      else forwardPresented r) = s.admittedSlot r i w own' := by
  unfold State.admittedSlot
  split
  · rw [slotOf_forward, h.covered]
  · rw [forwardPresented, slotOf_forward, h.covered]

theorem State.judgedWhole.slot_answered (h : s.judgedWhole r i v own) (a : AnswerStatus) :
    slotOf s.acceptCount r (s.target r) (.answer a 0) = localSlot s r (s.target r).cls (some i) r.data a 0 := by
  rw [slotOf_answer h.op, h.covered]

theorem State.judgedWhole.exec_forwarded (h : s.judgedWhole r i v own) {w : Int} {own' : Bool}
    (hj : s.countAcceptance.judge r (s.target r) = (u, if s.mode = .enforce ∧ own' = false then
        .forward (s.entry i).width.code (s.entry i).address (valueData (s.entry i).width w)
      else forwardPresented r)) :
    exec (.acceptance r) s = .next (u.withSlots (s.slots ++ [s.admittedSlot r i w own'])) := by
  rw [exec_acceptance_of_judge h.hasRoom rfl hj, h.slot_forwarded]

theorem State.judgedWhole.exec_answered (h : s.judgedWhole r i v own) {a : AnswerStatus}
    (hj : s.countAcceptance.judge r (s.target r) = (u, .answer a 0)) :
    exec (.acceptance r) s =
      .next (u.withSlots (s.slots ++ [localSlot s r (s.target r).cls (some i) r.data a 0])) := by
  rw [exec_acceptance_of_judge h.hasRoom rfl hj, h.slot_answered]

/-! ## The violated entry -/

theorem Entry.counted_frame (e : Entry) (flags : BitVec 6) : e.counted flags = { e with
    state := (e.counted flags).state, remaining := (e.counted flags).remaining
    violations := (e.counted flags).violations, sticky := (e.counted flags).sticky } := by
  unfold Entry.counted
  split <;> rfl

theorem State.enabledGroup_counted (s : State) (e : Entry) (flags : BitVec 6) :
    s.enabledGroup (e.counted flags) = s.enabledGroup e := by
  rw [Entry.counted_frame]; rfl

theorem State.entry_afterViolation_self (s : State) (i : Fin 48) (flags : BitVec 6) (x : Report) :
    (s.afterViolation i flags x).entry i = (s.entry i).counted flags := by
  rw [State.entry_afterViolation, if_pos rfl]

/-- A violation makes and ends no membership. -/
theorem State.enabledGroup_violated (s : State) (i : Fin 48) (flags : BitVec 6) (x : Report) :
    (s.afterViolation i flags x).enabledGroup ((s.afterViolation i flags x).entry i) = s.enabledGroup (s.entry i) := by
  rw [State.enabledGroup_afterViolation, State.entry_afterViolation_self, State.enabledGroup_counted]

/-- An admission outside the groups that follows the entry's violation. -/
theorem State.admitWrite_violated (h : s.enabledGroup (s.entry i) = none) (flags : BitVec 6) (x : Report) (w : Int)
    (own' : Bool) : (s.afterViolation i flags x).admitWrite r i w own' =
      ((s.afterViolation i flags x).setEntry i (((s.entry i).counted flags).admitted w),
        if s.mode = .enforce ∧ own' = false then
          .forward (s.entry i).width.code (s.entry i).address (valueData (s.entry i).width w)
        else forwardPresented r) := by
  rw [State.admitWrite_ungrouped ((s.enabledGroup_violated i flags x).trans h), State.entry_afterViolation_self,
    State.mode_afterViolation]
  have hframe := (s.entry i).counted_frame flags
  rw [show ((s.entry i).counted flags).width = (s.entry i).width by rw [hframe],
    show ((s.entry i).counted flags).address = (s.entry i).address by rw [hframe]]

end Sys2Proof.Machine
end

section
/-! SUPPORT. A straddling write in closed form (R44, R45, R47), and the entries that a judgement leaves (R23, R25). -/

namespace Sys2Proof.Machine

variable {s t : State} {r : NpRequest} {i j : Fin 48} {v : Int} {own : Bool}

/-! ## The entries beside the records of a judgement -/

/-- The state with these entries. -/
def State.withEntries (s : State) (es : Vector Entry 48) : State := { s with entries := es }

theorem State.createRecord_withEntries (s : State) (es : Vector Entry 48) (d : Detail) (x : Subject) (a w : Word) :
    (s.withEntries es).createRecord d x a w = (s.createRecord d x a w).withEntries es := by
  cases h : s.ringState <;> simp only [State.createRecord, State.withEntries, State.countLost, h] <;> split <;> rfl

theorem State.reportAll_withEntries (es : Vector Entry 48) :
    ∀ (xs : List Report) (s : State), (s.withEntries es).reportAll xs = (s.reportAll xs).withEntries es
  | [], _ => rfl
  | x :: xs, s => by
    rw [State.reportAll_cons, State.createRecord_withEntries, State.reportAll_withEntries es xs, State.reportAll_cons]

theorem State.setEntry_eq_withEntries (s : State) (i : Fin 48) (e : Entry) :
    s.setEntry i e = s.withEntries (s.setEntry i e).entries := rfl

/-! ## Every covered entry counted -/

theorem State.foldl_countAgainst_eq (flags : BitVec 6) : ∀ (is : List (Fin 48)) (s : State),
    is.foldl (fun t i => t.countAgainst flags i) s =
      s.withEntries (is.foldl (fun t i => t.countAgainst flags i) s).entries
  | [], _ => rfl
  | i :: is, s => by
    rw [List.foldl_cons, State.foldl_countAgainst_eq flags is]
    rfl

theorem State.entry_foldl_countAgainst (flags : BitVec 6) (j : Fin 48) : ∀ (is : List (Fin 48)) (s : State), is.Nodup →
    (is.foldl (fun t i => t.countAgainst flags i) s).entry j =
      if j ∈ is then (s.entry j).violated flags else s.entry j
  | [], _, _ => by simp
  | i :: is, s, hnodup => by
    obtain ⟨hi, hrest⟩ := List.nodup_cons.mp hnodup
    have hcount : (s.countAgainst flags i).entry j = if i = j then (s.entry j).violated flags else s.entry j := by
      rw [State.countAgainst, State.entry_setEntry]
      split
      · next hij => subst hij; rfl
      · rfl
    rw [List.foldl_cons, State.entry_foldl_countAgainst flags j is _ hrest, hcount]
    by_cases hij : i = j
    · subst hij; simp [hi]
    · simp [hij, Ne.symm hij]

/-! ## Every covered entry tested -/

/-- The TRIP record of an entry that stands at its threshold (R32). -/
def Entry.tripReport (e : Entry) (i : Fin 48) (w : Word) : Report where
  detail := .trip e.violations
  subject := .entry i
  address := e.address
  value := w

/-- The TRIP records of those of these entries that stand at their threshold. -/
def State.dueTrips (s : State) (is : List (Fin 48)) (w : Word) : List Report :=
  is.filterMap fun i => if (s.entry i).trips then some ((s.entry i).tripReport i w) else none

theorem State.dueTrips_congr {is : List (Fin 48)} (h : ∀ i ∈ is, t.entry i = s.entry i) (w : Word) :
    t.dueTrips is w = s.dueTrips is w :=
  filterMap_of_mem fun i hi => by rw [h i hi]

theorem State.entry_tripIfDue (s : State) (w : Word) (i j : Fin 48) :
    (s.tripIfDue w i).entry j = if i = j ∧ (s.entry j).trips then (s.entry j).latch else s.entry j := by
  by_cases htrips : (s.entry i).trips
  · rw [State.tripIfDue_of_trips htrips, State.entry_setEntry]
    by_cases hij : i = j
    · subst hij; rw [if_pos rfl, if_pos ⟨rfl, htrips⟩]
    · rw [if_neg hij, if_neg fun h => hij h.1]; simp
  · rw [State.tripIfDue_of_not_trips htrips, if_neg]
    rintro ⟨rfl, h⟩
    exact htrips h

theorem Entry.not_trips_latch (e : Entry) : ¬ e.latch.trips := by
  rintro ⟨-, h | h, -⟩ <;> cases h

theorem State.entry_foldl_tripIfDue (w : Word) (j : Fin 48) : ∀ (is : List (Fin 48)) (s : State),
    (is.foldl (fun t i => t.tripIfDue w i) s).entry j =
      if j ∈ is ∧ (s.entry j).trips then (s.entry j).latch else s.entry j
  | [], _ => by simp
  | i :: is, s => by
    rw [List.foldl_cons, State.entry_foldl_tripIfDue w j is, State.entry_tripIfDue]
    by_cases hij : i = j ∧ (s.entry j).trips
    · obtain ⟨rfl, htrips⟩ := hij
      have hlatch : (if i = i ∧ (s.entry i).trips then (s.entry i).latch else s.entry i) = (s.entry i).latch :=
        if_pos ⟨rfl, htrips⟩
      rw [hlatch, if_neg fun h => (s.entry i).not_trips_latch h.2, if_pos ⟨List.mem_cons_self, htrips⟩]
    · rw [if_neg hij]
      refine ite_of_iff (and_congr_left fun htrips => ?_)
      rw [List.mem_cons, or_iff_right]
      exact fun h => hij ⟨h.symm, htrips⟩

/-- The trip tests of several entries: their records, and TRIP where an entry trips. -/
theorem State.foldl_tripIfDue_eq (w : Word) : ∀ (is : List (Fin 48)) (s : State), is.Nodup →
    is.foldl (fun t i => t.tripIfDue w i) s =
      ((s.reportAll (s.dueTrips is w)).setCause (if (s.dueTrips is w).isEmpty then 0 else causeTrip)).withEntries
        (is.foldl (fun t i => t.tripIfDue w i) s).entries
  | [], s, _ => by simp [State.dueTrips, State.setCause, State.withEntries]
  | i :: is, s, hnodup => by
    obtain ⟨hi, hrest⟩ := List.nodup_cons.mp hnodup
    have hdue : (s.tripIfDue w i).dueTrips is w = s.dueTrips is w := State.dueTrips_congr (fun j hj => by
      rw [State.entry_tripIfDue, if_neg]
      rintro ⟨rfl, -⟩
      exact hi hj) w
    have htail := State.foldl_tripIfDue_eq w is (s.tripIfDue w i) hrest
    rw [List.foldl_cons, htail, hdue]
    by_cases htrips : (s.entry i).trips
    · have hcons : s.dueTrips (i :: is) w = (s.entry i).tripReport i w :: s.dueTrips is w := by
        simp only [State.dueTrips, List.filterMap_cons, if_pos htrips]
      have hor : causeTrip ||| (if (s.dueTrips is w).isEmpty then 0 else causeTrip) = causeTrip := by
        split <;> decide
      rw [hcons, State.tripIfDue_of_trips htrips, State.reportAll_setEntry, State.reportAll_setCause,
        State.setEntry_setCause, State.setCause_setCause, hor]
      rfl
    · have hcons : s.dueTrips (i :: is) w = s.dueTrips is w := by
        simp only [State.dueTrips, List.filterMap_cons, if_neg htrips]
      rw [hcons, State.tripIfDue_of_not_trips htrips]
      rfl

/-! ## The straddle (R44, R45, R47) -/

theorem coveredSubject_cons (i : Fin 48) (is : List (Fin 48)) : coveredSubject (i :: is) = .entry i := rfl

/-- The STRADDLE record of a write that covers these entries, the lowest first. -/
def State.straddleReport (s : State) (r : NpRequest) (i : Fin 48) (is : List (Fin 48)) : Report where
  detail := .straddle (i :: is).length (if s.mode = .enforce then .deny else .pass)
  subject := .entry i
  address := r.address
  value := r.data

theorem State.withEntries_self {X : State} {es : Vector Entry 48} (h : t = X.withEntries es) :
    t = X.withEntries t.entries := by
  rw [h]; rfl

/-- Counting every covered entry and testing each is a violation of them all, but for the entries. -/
theorem State.straddled_eq {is : List (Fin 48)} (hnodup : is.Nodup) (s : State) (flags : BitVec 6) (x : Report) :
    ∃ es, is.foldl (fun t i => t.tripIfDue x.value i)
        (((is.foldl (fun t i => t.countAgainst flags i) s).createRecord x.detail x.subject x.address x.value).setCause
          causeLimit) = (s.violationReported is flags x).withEntries es := by
  have hcounted := State.foldl_countAgainst_eq flags is s
  have hentry (j : Fin 48) (hj : j ∈ is) :
      (is.foldl (fun t i => t.countAgainst flags i) s).entry j = (s.entry j).violated flags := by
    rw [State.entry_foldl_countAgainst flags j _ _ hnodup, if_pos hj]
  generalize is.foldl (fun t i => t.countAgainst flags i) s = s1 at hcounted hentry ⊢
  have hdue : ((s1.createRecord x.detail x.subject x.address x.value).setCause causeLimit).dueTrips is x.value =
      s.tripReports is flags x.value := by
    refine filterMap_of_mem fun j hj => ?_
    rw [State.entry_setCause, State.entry_createRecord, hentry j hj]
    rfl
  have hcause : causeLimit ||| (if (s.tripReports is flags x.value).isEmpty then 0 else causeTrip) =
      if (s.tripReports is flags x.value).isEmpty then 0x02 else 0x06 := by
    split <;> decide
  have hreported : (((s1.createRecord x.detail x.subject x.address x.value).reportAll
      (s.tripReports is flags x.value)).setCause (if (s.tripReports is flags x.value).isEmpty then 0x02 else 0x06)) =
        (s.violationReported is flags x).withEntries s1.entries := by
    obtain ⟨es, hes⟩ : ∃ es, s1 = s.withEntries es := ⟨_, hcounted⟩
    rw [hes, State.createRecord_withEntries, State.reportAll_withEntries]
    rfl
  have htested := State.foldl_tripIfDue_eq x.value is
    ((s1.createRecord x.detail x.subject x.address x.value).setCause causeLimit) hnodup
  rw [hdue, State.reportAll_setCause, State.setCause_setCause, hcause, hreported] at htested
  exact ⟨_, htested⟩

/-- A straddling write's effects: those of its violations, but for the entries. -/
theorem State.judgeStraddle_eq (s : State) (r : NpRequest) {i : Fin 48} {is : List (Fin 48)} (hnodup : (i :: is).Nodup) :
    s.judgeStraddle r (i :: is) =
      ((s.violationReported (i :: is) stickyStraddle (s.straddleReport r i is)).withEntries
        (s.judgeStraddle r (i :: is)).1.entries,
        if s.mode = .enforce then .answer .denied 0 else forwardPresented r) := by
  obtain ⟨es, hes⟩ := State.straddled_eq hnodup s stickyStraddle (s.straddleReport r i is)
  refine Prod.ext (State.withEntries_self (es := es) ?_) (by simp [State.judgeStraddle])
  rw [← hes]
  simp only [State.judgeStraddle, State.straddleReport, decide_eq_true_eq]
  rfl

/-- Every covered entry is counted once, and no other entry changes. -/
theorem State.entry_judgeStraddle (s : State) (r : NpRequest) {is : List (Fin 48)} (hnodup : is.Nodup) (j : Fin 48) :
    (s.judgeStraddle r is).1.entry j = if j ∈ is then (s.entry j).counted stickyStraddle else s.entry j := by
  unfold State.judgeStraddle
  dsimp only
  rw [State.entry_foldl_tripIfDue, State.entry_setCause, State.entry_createRecord,
    State.entry_foldl_countAgainst _ j _ _ hnodup]
  by_cases hj : j ∈ is
  · rw [if_pos hj, if_pos hj, Entry.counted]
    exact ite_of_iff (and_iff_right hj)
  · rw [if_neg hj, if_neg hj, if_neg fun h => hj h.1]

/-! ## The entries that a judgement leaves (R23) -/

theorem State.entry_admitWrite_ne (h : i ≠ j) : (s.admitWrite r i v own).1.entry j = s.entry j := by
  unfold State.admitWrite
  dsimp only
  split
  · rw [State.entry_stage]
  · exact State.entry_setEntry_ne _ _ _ _ h

theorem State.entry_judgeValue_ne (h : i ≠ j) : (s.judgeValue r i v own).1.entry j = s.entry j := by
  have hviolated (flags : BitVec 6) (x : Report) : (s.afterViolation i flags x).entry j = s.entry j := by
    rw [State.entry_afterViolation, if_neg h]
  by_cases hany : ((s.entry i).checks v).any = true
  · rw [State.judgeValue_violating hany]
    split
    · rw [State.entry_admitWrite_ne h, hviolated]
    · rw [State.entry_admitWrite_ne h, hviolated]
    · exact hviolated _ _
    · exact hviolated _ _
  · rw [State.judgeValue_conforming (by simpa using hany), State.entry_admitWrite_ne h]

theorem State.entry_denyLatched_ne (h : i ≠ j) : (s.denyLatched i).1.entry j = s.entry j :=
  State.entry_setEntry_ne _ _ _ _ h

theorem State.entry_judgeExact_ne (h : i ≠ j) : (s.judgeExact r i).1.entry j = s.entry j := by
  unfold State.judgeExact
  split
  · exact State.entry_denyLatched_ne h
  · exact State.entry_judgeValue_ne h

theorem State.entry_judgePartial_ne (h : i ≠ j) : (s.judgePartial r i).1.entry j = s.entry j := by
  unfold State.judgePartial
  split
  · exact State.entry_denyLatched_ne h
  · split
    · exact State.entry_judgeValue_ne h
    · show (s.violate i _ _ _ _).entry j = _
      rw [State.violate_eq, State.entry_afterViolation, if_neg h]

theorem State.nodup_of_target_straddling {is : List (Fin 48)} (h : s.target r = .straddling is) : is.Nodup := by
  have hm := not_malformed_of_target (s := s) (r := r) (by rw [h]; nofun)
  obtain ⟨-, rfl, -⟩ := (State.target_straddling hm is).mp h
  exact (s.pairwise_coveredBy r).imp fun hij => Fin.ne_of_lt hij

/-- A judgement leaves every entry that the request does not cover. -/
theorem State.entry_judge_of_not_covers (h : ¬ s.covers r j) :
    (s.countAcceptance.judge r (s.target r)).1.entry j = s.entry j := by
  have hcovers (i : Fin 48) (hi : s.target r = .exact i ∨ s.target r = .partialTo i) : i ≠ j := by
    have hm := not_malformed_of_target (s := s) (r := r) (by rcases hi with hi | hi <;> rw [hi] <;> nofun)
    rintro rfl
    rcases hi with hi | hi
    · exact h ((State.target_exact hm i).mp hi).1
    · exact h ((State.target_partialTo hm i).mp hi).1
  have hguarded : (s.countAcceptance.judgeGuarded r (s.target r)).1.entry j = s.entry j := by
    cases ht : s.target r with
    | malformed => rfl
    | unwatched => rfl
    | exact i => exact State.entry_judgeExact_ne (hcovers i (.inl ht))
    | partialTo i => exact State.entry_judgePartial_ne (hcovers i (.inr ht))
    | straddling is =>
      have hm := not_malformed_of_target (s := s) (r := r) (by rw [ht]; nofun)
      have hj : j ∉ is := by
        obtain ⟨-, rfl, -⟩ := (State.target_straddling hm is).mp ht
        exact fun hj => h ((State.mem_coveredBy hm).mp hj)
      show (s.countAcceptance.judgeStraddle r is).1.entry j = _
      rw [State.entry_judgeStraddle _ r (State.nodup_of_target_straddling ht), if_neg hj]
      rfl
  have hbypass : (s.countAcceptance.judgeBypass r (s.target r)).1.entry j = s.entry j := by
    unfold State.judgeBypass
    split
    · split <;> rfl
    · split <;> rfl
    all_goals rfl
  unfold State.judge
  split
  · exact State.entry_createRecord _ _ _ _ _ _
  · split
    · rfl
    · unfold State.judgeWrite
      split
      · exact hbypass
      · exact hguarded
      · exact hguarded

theorem State.judge_read (hop : r.op = .read) {t : Target} (ht : t ≠ .malformed) : s.judge r t = (s, s.judgeRead r) := by
  cases t <;> simp_all [State.judge]

/-- Settles O8: a judgement writes only covered entries, and a read's judgement writes nothing. -/
theorem acceptanceTouchesOnlyCoveredEntries : Obligations.AcceptanceTouchesOnlyCoveredEntries := by
  refine fun r s hroom => ⟨_, exec_acceptance_judged hroom, fun i hi => State.entry_judge_of_not_covers hi,
    fun hop ht => ?_⟩
  rw [State.judge_read hop ht]
  exact ⟨rfl, rfl, rfl, rfl, rfl, rfl, rfl, rfl⟩

end Sys2Proof.Machine
end

section
/-! SUPPORT. The acceptance of a write, class by class (R26 to R47). -/

namespace Sys2Proof.Machine

variable {s : State} {r : NpRequest} {i : Fin 48} {v : Int} {own : Bool}

/-! ## Malformed and unchecked requests (R26 to R28) -/

/-- Settles O9. -/
theorem malformedRequestAnsweredFault : Obligations.MalformedRequestAnsweredFault := by
  intro r s hroom hmalformed
  have ht : s.target r = .malformed := State.target_malformed (malformedRequest_iff.mpr hmalformed)
  have hdata : requestData r = if r.op = .write then r.data else 0 := by
    cases hop : r.op <;> simp [requestData, hop]
  have hslot : slotOf s.acceptCount r .malformed (.answer .fault 0) =
      localSlot s r .malformed none (if r.op = .write then r.data else 0) .fault 0 := by
    rw [← hdata]; rfl
  rw [exec_acceptance_of_judge hroom ht rfl, hslot, ← State.withSlots_countAcceptance, hdata]
  rw [State.createRecord_withSlots]
  rfl

/-- A write that the judgement forwards as presented, leaving the tables. -/
theorem exec_acceptance_presented (hroom : s.hasRoom)
    (hj : s.countAcceptance.judge r (s.target r) = (s.countAcceptance, forwardPresented r)) :
    exec (.acceptance r) s = .next (s.acceptedWith
      (forwardSlot s r (s.target r).cls (s.target r).covered r.wcode r.address r.data)) := by
  rw [exec_acceptance_of_judge hroom rfl hj]
  rfl

theorem State.judge_bypass (hop : r.op = .write) (hmode : s.mode = .bypass) {t : Target} (ht : t ≠ .malformed) :
    s.judge r t = s.judgeBypass r t := by
  rw [State.judge_write hop ht, State.judgeWrite_bypass hmode]

theorem State.inCommitWait_eq_false (h : ¬ s.waitsToCommit i) : s.inCommitWait i = false := by
  simpa using fun hw => h (State.inCommitWait_iff.mp hw)

/-- In BYPASS only an exact or partial write to a member of a waiting group is taken (R27). -/
theorem State.judgeBypass_presented {t : Target}
    (h : ∀ i, t = .exact i ∨ t = .partialTo i → ¬ s.waitsToCommit i) : s.judgeBypass r t = (s, forwardPresented r) := by
  cases t with
  | exact i => simp [State.judgeBypass, State.inCommitWait_eq_false (h i (.inl rfl))]
  | partialTo i => simp [State.judgeBypass, State.inCommitWait_eq_false (h i (.inr rfl))]
  | _ => rfl

theorem State.judge_unwatched (hop : r.op = .write) : s.judge r .unwatched = (s, forwardPresented r) := by
  rw [State.judge_write hop (t := .unwatched) nofun]
  unfold State.judgeWrite
  split <;> rfl

/-- Settles O10. -/
theorem uncheckedWritesForwardedOrStaged : Obligations.UncheckedWritesForwardedOrStaged := by
  refine ⟨fun r s hroom hop ht h => exec_acceptance_presented hroom ?_, fun s i j v => ⟨?_, rfl⟩,
    fun r s i hroom hmode hop hwaits => ⟨fun ht => ?_, fun v ht hv => ?_⟩⟩
  · rcases h with hunwatched | ⟨hmode, hfree⟩
    · rw [hunwatched, State.judge_unwatched hop]
    · rw [State.judge_bypass (s := s.countAcceptance) hop hmode ht]
      exact State.judgeBypass_presented (s := s.countAcceptance) hfree
  · rw [State.stagedValue_setStaged]
    exact ite_of_iff eq_comm
  · have hin : s.countAcceptance.inCommitWait i = true := State.inCommitWait_iff.mpr hwaits
    have hj := State.judge_bypass (s := s.countAcceptance) (t := .exact i) hop hmode nofun
    simp only [State.judgeBypass, hin, if_true] at hj
    rw [exec_acceptance_of_judge hroom ht hj, slotOf_answer hop]
    rfl
  · have hin : s.countAcceptance.inCommitWait i = true := State.inCommitWait_iff.mpr hwaits
    have hv' : s.countAcceptance.stagedValue i = some v := hv
    have hj := State.judge_bypass (s := s.countAcceptance) (t := .partialTo i) hop hmode nofun
    simp only [State.judgeBypass, hin, if_true, hv', Option.map_some] at hj
    rw [exec_acceptance_of_judge hroom ht hj, slotOf_answer hop]
    rfl

/-! ## The latched check (R29, R34) -/

theorem State.judge_latched (hop : r.op = .write) (hmode : s.mode = .enforce) (hstate : (s.entry i).state = .latched)
    {t : Target} (ht : t = .exact i ∨ t = .partialTo i) : s.judge r t = s.denyLatched i := by
  have hcheck : s.latchedCheck i = true := State.latchedCheck_iff.mpr ⟨hmode, hstate⟩
  rcases ht with rfl | rfl
  · rw [State.judge_guarded (s := s) (t := .exact i) hop (by simp [hmode]) nofun]
    exact if_pos hcheck
  · rw [State.judge_guarded (s := s) (t := .partialTo i) hop (by simp [hmode]) nofun]
    exact if_pos hcheck

theorem Entry.denials_counted (e : Entry) (flags : BitVec 6) : (e.counted flags).denials = e.denials := by
  unfold Entry.counted
  split <;> rfl

/-- A value judged in MONITOR outside any enabled group is admitted with no denial and forwarded as presented (R34). -/
theorem State.judgeValue_monitor (hmode : s.mode = .monitor) (h : s.enabledGroup (s.entry i) = none) (v : Int) (own : Bool) :
    ((s.judgeValue r i v own).1.entry i).denials = (s.entry i).denials ∧
      (s.judgeValue r i v own).2 = forwardPresented r := by
  have happlied : s.applied i = .pass := if_neg (by simp [hmode])
  have hpresented (u : State) (hu : u.mode = .monitor) (hgroup : u.enabledGroup (u.entry i) = none) :
      ((u.admitWrite r i v own).1.entry i).denials = (u.entry i).denials ∧
        (u.admitWrite r i v own).2 = forwardPresented r := by
    rw [State.admitWrite_ungrouped hgroup]
    refine ⟨by rw [State.entry_setEntry_self]; rfl, if_neg (by simp [hu])⟩
  by_cases hany : ((s.entry i).checks v).any = true
  · rw [State.judgeValue_violating hany, happlied]
    have hadmit := hpresented (s.afterViolation i ((s.entry i).checks v).sticky (s.limitReport i v .pass))
      (by rw [State.mode_afterViolation, hmode]) ((s.enabledGroup_violated i _ _).trans h)
    rw [State.entry_afterViolation_self, Entry.denials_counted] at hadmit
    exact hadmit
  · rw [State.judgeValue_conforming (by simpa using hany)]
    exact hpresented s hmode h

/-- Settles O12. -/
theorem latchedWriteDenied : Obligations.LatchedWriteDenied := by
  refine fun r s i hroom hop => ⟨fun hmode hstate ht => ?_, fun hmode ht => ?_, fun hmode ht hgroup => ?_⟩
  · have hj := State.judge_latched (s := s.countAcceptance) hop hmode hstate ht
    have hcovered : (s.target r).covered = some i := by rcases ht with ht | ht <;> rw [ht] <;> rfl
    rw [exec_acceptance_of_judge hroom rfl hj, slotOf_answer hop, hcovered]
    rfl
  · exact State.judge_exact_write (s := s.countAcceptance) hop (by simp [hmode]) (by simp [hmode])
  · have hj := State.judge_exact_write (s := s.countAcceptance) (i := i) hop (by simp [hmode]) (by simp [hmode])
    obtain ⟨hdenials, hverdict⟩ := State.judgeValue_monitor (s := s.countAcceptance) (r := r) hmode hgroup
      (readValue (s.entry i).width (s.entry i).signed r.data) true
    refine ⟨_, exec_acceptance_judged hroom, ?_, ?_⟩
    · rw [ht, hj]
      exact hdenials
    · show s.slots ++ [s.acceptedSlot r] = _
      rw [State.acceptedSlot, ht, hj]
      dsimp only [State.entry_countAcceptance]
      rw [hverdict]
      rfl

/-! ## Whole values outside the groups (R30 to R36) -/

/-- Settles O13. -/
theorem conformingWriteAdmitted : Obligations.ConformingWriteAdmitted := by
  intro r s i v own h hgroup hany
  have hj := h.judge.trans (State.judgeValue_conforming (s := s.countAcceptance) hany)
  exact h.exec_forwarded (hj.trans (State.admitWrite_ungrouped (s := s.countAcceptance) hgroup))

/-- Settles O14. -/
theorem violatingWriteAdmitted : Obligations.ViolatingWriteAdmitted := by
  intro r s i v w own own' h hgroup hany ha
  have hj := h.judge.trans (State.judgeValue_admits (s := s.countAcceptance) hany ha)
  have hadmit := State.admitWrite_violated (s := s.countAcceptance) (r := r) hgroup ((s.entry i).checks v).sticky
    (s.limitReport i v (s.applied i)) w own'
  rw [h.exec_forwarded (hj.trans hadmit), ← State.withSlots_countAcceptance, State.afterViolation_withSlots]
  rfl

/-- Settles O15. -/
theorem violatingWriteDroppedInEnforce : Obligations.ViolatingWriteDroppedInEnforce := by
  intro r s i v own a h hmode hany haction
  have happlied : s.applied i = (s.entry i).action := if_pos hmode
  have hj := h.judge.trans (State.judgeValue_violating (s := s.countAcceptance) hany)
  have happlied' : s.countAcceptance.applied i = (s.entry i).action := happlied
  rw [happlied'] at hj
  rw [← State.withSlots_countAcceptance, State.afterViolation_withSlots]
  rcases haction with ⟨hhold, rfl⟩ | ⟨hdeny, rfl⟩
  · rw [hhold] at hj ⊢
    exact h.exec_answered hj
  · rw [hdeny] at hj ⊢
    exact h.exec_answered hj

/-! ## Partial writes (R40 to R43) -/

/-- The slot of a write that ENFORCE denies and MONITOR forwards. -/
theorem slotOf_denied_or_presented (hop : r.op = .write) (t : Target) :
    slotOf s.acceptCount r t (if s.mode = .enforce then .answer .denied 0 else forwardPresented r) =
      if s.mode = .enforce then localSlot s r t.cls t.covered r.data .denied 0
      else forwardSlot s r t.cls t.covered r.wcode r.address r.data := by
  split
  · exact slotOf_answer hop s t .denied 0
  · rfl

/-- Settles O16. -/
theorem partialViolationCountedAndNotAdmitted : Obligations.PartialViolationCountedAndNotAdmitted := by
  intro r s i hroom hop hmode ht hlatched hbase
  have hpartial : s.countAcceptance.judge r (.partialTo i) = s.countAcceptance.partialViolation r i := by
    rw [State.judge_partial_write (s := s.countAcceptance) hop hmode hlatched]
    rcases hbase with hmerge | hnone
    · have hmerge' : (s.countAcceptance.entry i).mergePartial = false := hmerge
      rw [hmerge']
    · have hnone' : s.countAcceptance.partialBase i = none := hnone
      rw [hnone']
      cases (s.countAcceptance.entry i).mergePartial <;> rfl
  have hj : s.countAcceptance.judge r (.partialTo i) = (s.countAcceptance.afterViolation i stickyPartial
      { detail := .partialWrite (if s.mode = .enforce then .deny else .pass), subject := .entry i, address := r.address,
        value := keepLow (requestWidth r) r.data }, if s.mode = .enforce then .answer .denied 0 else forwardPresented r) := by
    rw [hpartial, State.partialViolation, State.violate_eq]
    simp only [decide_eq_true_eq]
    rfl
  rw [exec_acceptance_of_judge hroom ht hj, slotOf_denied_or_presented hop, ← State.withSlots_countAcceptance,
    State.afterViolation_withSlots]
  rfl

/-- The base of a partial write, by where the member's staged value stands (R40). -/
theorem State.partialBase_iff {b : Int} : s.partialBase i = some b ↔
    ((∃ g, (s.entry i).group = some g ∧ (s.group g).enabled = true) ∧ s.stagedValue i = some b ∨
      ¬ ((∃ g, (s.entry i).group = some g ∧ (s.group g).enabled = true) ∧ (s.stagedValue i).isSome = true) ∧
        (s.entry i).reference = some b) := by
  have hmember : (∃ g, (s.entry i).group = some g ∧ (s.group g).enabled = true) ↔
      (s.enabledGroup (s.entry i)).isSome = true := by
    simp only [Option.isSome_iff_exists, State.enabledGroup_eq_some]
  rw [hmember, State.partialBase]
  cases s.enabledGroup (s.entry i) <;> cases s.stagedValue i <;> simp

/-! ### The bits of a merged value (R2, R3, R40) -/

theorem Width.getLsbD_mask (w : Width) (b : Nat) : w.mask.getLsbD b = decide (b < 8 * w.bytes) := by
  by_cases hb : b < 32
  · cases w <;> (revert hb; revert b; decide)
  · rw [BitVec.getLsbD_of_ge _ _ (by omega)]
    have hbytes : 8 * w.bytes ≤ 32 := by cases w <;> decide
    exact (decide_eq_false (by omega)).symm

theorem getLsbD_valueWord_readValue (w : Width) (signed : Bool) (x : Word) {b : Nat} (hb : b < 8 * w.bytes) :
    (valueWord (readValue w signed x)).getLsbD b = x.getLsbD b := by
  have hwidth : 8 * w.bytes ≤ 32 := by cases w <;> decide
  cases signed with
  | false =>
    have hword : valueWord (readValue w false x) = (x.setWidth (8 * w.bytes)).setWidth 32 := by
      simp only [valueWord, readValue, Bool.false_eq_true, if_false, BitVec.ofInt_natCast]
      exact BitVec.ofNat_toNat 32 _
    rw [hword]
    simp [BitVec.getLsbD_setWidth, hb]
    omega
  | true =>
    have hword : valueWord (readValue w true x) = (x.setWidth (8 * w.bytes)).signExtend 32 := rfl
    rw [hword, BitVec.getLsbD_signExtend, if_pos hb, BitVec.getLsbD_setWidth]
    simp [hb]
    omega

theorem getLsbD_mergeBytes (base : Word) (k : Nat) (w : Width) (data : Word) {b : Nat} (hb : b < 32) :
    (mergeBytes base k w data).getLsbD b =
      if 8 * k ≤ b ∧ b < 8 * (k + w.bytes) then data.getLsbD (b - 8 * k) else base.getLsbD b := by
  have hmask : (w.mask <<< (8 * k)).getLsbD b = decide (8 * k ≤ b ∧ b < 8 * (k + w.bytes)) := by
    rw [BitVec.getLsbD_shiftLeft, Width.getLsbD_mask]
    by_cases h : b < 8 * k
    · rw [decide_eq_true h, Bool.not_true, Bool.and_false, Bool.false_and]
      exact (decide_eq_false (by omega)).symm
    · rw [decide_eq_false h, decide_eq_true hb]
      exact decide_eq_decide.mpr (by omega)
  have hdata : (data <<< (8 * k)).getLsbD b = (decide (8 * k ≤ b) && data.getLsbD (b - 8 * k)) := by
    rw [BitVec.getLsbD_shiftLeft, decide_eq_true hb, Bool.true_and, ← decide_not]
    exact congrArg (· && _) (decide_eq_decide.mpr (by omega))
  rw [mergeBytes, BitVec.getLsbD_or, BitVec.getLsbD_and, BitVec.getLsbD_and, BitVec.getLsbD_not, hmask, hdata]
  by_cases h : 8 * k ≤ b ∧ b < 8 * (k + w.bytes)
  · simp [h]
  · simp [h, hb]

theorem getLsbD_byteAt (x : Word) (j b : Nat) : (byteAt x j).getLsbD b = (decide (b < 8) && x.getLsbD (8 * j + b)) := by
  rw [byteAt, BitVec.getLsbD_extractLsb']

/-- A merged value's bytes (R40). -/
theorem byteAt_mergedValue {b : Int} {j : Nat} (e : Entry) (r : NpRequest) (hj : j < e.width.bytes) :
    byteAt (valueWord (mergedValue e r b)) j =
      if r.address.toNat - e.address.toNat ≤ j ∧ j < r.address.toNat - e.address.toNat + (requestWidth r).bytes then
        byteAt r.data (j - (r.address.toNat - e.address.toNat)) else byteAt (valueWord b) j := by
  have hbytes : e.width.bytes ≤ 4 := by cases e.width <;> decide
  refine BitVec.eq_of_getLsbD_eq fun n hn => ?_
  rw [getLsbD_byteAt, decide_eq_true hn, Bool.true_and, mergedValue, getLsbD_valueWord_readValue _ _ _ (by omega),
    getLsbD_mergeBytes _ _ _ _ (by omega)]
  generalize r.address.toNat - e.address.toNat = k
  by_cases h : k ≤ j ∧ j < k + (requestWidth r).bytes
  · rw [if_pos h, if_pos (by omega), getLsbD_byteAt, decide_eq_true hn, Bool.true_and]
    congr 1
    omega
  · rw [if_neg h, if_neg (by omega), getLsbD_byteAt, decide_eq_true hn, Bool.true_and]

/-- Settles O17. -/
theorem mergedPartialWriteAdmitted : Obligations.MergedPartialWriteAdmitted := by
  refine ⟨fun s i b => State.partialBase_iff, fun r s i b k ht hk => ⟨inType_readValue _ _ _, fun j hj => ?_⟩,
    fun r s i b v hroom hop hmode ht hlatched hmerge hbase hv hgroup hany => ?_⟩
  · have hm := not_malformed_of_target (s := s) (r := r) (by rw [ht]; nofun)
    rw [byteAt_mergedValue _ _ hj, requestWidth_bytes (wcode_of_not_malformed hm), hk]
  · have hwhole : s.judgedWhole r i v false :=
      ⟨hroom, hop, hmode, hlatched, .inr ⟨ht, rfl, hmerge, b, hbase, hv⟩⟩
    have hslot : s.admittedSlot r i v false = if s.mode = .enforce then
        forwardSlot s r .partialTo (some i) (s.entry i).width.code (s.entry i).address (valueData (s.entry i).width v)
        else forwardSlot s r .partialTo (some i) r.wcode r.address r.data := by
      unfold State.admittedSlot
      rw [ht]
      exact ite_of_iff (and_iff_left rfl)
    rw [conformingWriteAdmitted r s i v false hwhole hgroup hany, hslot]

/-! ## Straddling writes (R44, R45) -/

/-- Settles O18. -/
theorem straddlingWriteCountsEveryCoveredEntry : Obligations.StraddlingWriteCountsEveryCoveredEntry := by
  intro r s i is hroom hop hmode ht
  have hnodup := State.nodup_of_target_straddling ht
  have hj : s.countAcceptance.judge r (.straddling (i :: is)) = s.countAcceptance.judgeStraddle r (i :: is) :=
    State.judge_guarded (s := s.countAcceptance) (t := .straddling (i :: is)) hop hmode nofun
  have hentry (j : Fin 48) := s.countAcceptance.entry_judgeStraddle r hnodup j
  rw [s.countAcceptance.judgeStraddle_eq r hnodup] at hj
  refine ⟨_, exec_acceptance_of_judge hroom ht hj, ?_, fun j hj => ?_, fun j hj => ?_⟩
  · have hslot := slotOf_denied_or_presented (s := s) hop (.straddling (i :: is))
    rw [← State.withSlots_countAcceptance, State.violationReported_withSlots]
    have hmode' : s.countAcceptance.mode = s.mode := rfl
    rw [hmode', hslot]
    rfl
  · exact (hentry j).trans (if_neg hj)
  · exact (hentry j).trans (if_pos hj)

/-! ## Members of enabled groups (R52 to R54) -/

theorem State.stage_withSlots (s : State) (l : List Slot) (g : Fin 8) (i : Fin 48) (v : Int) :
    (s.withSlots l).stage g i v = (s.stage g i v).withSlots l := by
  have hall : ((s.withSlots l).setStaged i (some v)).allStaged g = (s.setStaged i (some v)).allStaged g := by
    have hmembers : ((s.withSlots l).setStaged i (some v)).members g = (s.setStaged i (some v)).members g :=
      State.members_congr (fun _ => rfl) fun _ => rfl
    unfold State.allStaged
    rw [hmembers]
    rfl
  have hgroup : (s.withSlots l).group g = s.group g := rfl
  unfold State.stage
  dsimp only
  rw [hgroup, hall]
  split
  · rfl
  · split <;> rfl
  · split <;> rfl

theorem State.allStaged_setStaged (v : Int) (g : Fin 8) : (s.setStaged i (some v)).allStaged g = true ↔
    ∀ j ∈ s.members g, j ≠ i → (s.stagedValue j).isSome = true := by
  have hmembers : (s.setStaged i (some v)).members g = s.members g := State.members_congr (fun _ => rfl) fun _ => rfl
  rw [State.allStaged, hmembers, List.all_eq_true]
  refine forall₂_congr fun j _ => ?_
  rw [State.stagedValue_setStaged]
  by_cases hij : i = j
  · subst hij; simp
  · simp [hij, Ne.symm hij]

theorem State.group_stage_ne {g h : Fin 8} (hne : h ≠ g) (v : Int) : (s.stage g i v).group h = s.group h := by
  unfold State.stage
  dsimp only
  split
  · rfl
  · split
    · exact State.group_setGroup_ne _ _ _ _ (Ne.symm hne)
    · rfl
  · split
    · exact State.group_setGroup_ne _ _ _ _ (Ne.symm hne)
    · exact State.group_setGroup_ne _ _ _ _ (Ne.symm hne)

/-- Records change the queue, its two counters and the causes. -/
theorem State.reportAll_frame : ∀ (l : List Report) (s : State), s.reportAll l = { s with
    records := (s.reportAll l).records, sequence := (s.reportAll l).sequence, lost := (s.reportAll l).lost
    causes := (s.reportAll l).causes }
  | [], _ => rfl
  | x :: l, s => by
    obtain ⟨_, _, _, _, h⟩ := s.createRecord_changes x.detail x.subject x.address x.value
    rw [State.reportAll_cons, State.reportAll_frame l, h]

/-- A violation reaches its entry, the records and the causes. -/
theorem State.afterViolation_frame (s : State) (i : Fin 48) (flags : BitVec 6) (x : Report) :
    s.afterViolation i flags x = { s with
      entries := (s.afterViolation i flags x).entries, records := (s.afterViolation i flags x).records
      sequence := (s.afterViolation i flags x).sequence, lost := (s.afterViolation i flags x).lost
      causes := (s.afterViolation i flags x).causes } := by
  unfold State.afterViolation State.violationReported
  dsimp only
  rw [State.reportAll_frame]
  rfl

theorem Entry.sameSetup_counted (e : Entry) (flags : BitVec 6) : e.SameSetup (e.counted flags) := by
  unfold Entry.counted
  split
  · next h => exact ⟨rfl, by rcases h.2.1 with h | h <;> simp [show e.state = _ from h]⟩
  · exact ⟨rfl, Iff.rfl⟩

theorem State.members_afterViolation (s : State) (i : Fin 48) (flags : BitVec 6) (x : Report) (g : Fin 8) :
    (s.afterViolation i flags x).members g = s.members g := by
  have hsetup (j : Fin 48) : (s.entry j).SameSetup ((s.afterViolation i flags x).entry j) := by
    rw [State.entry_afterViolation]
    split
    · exact Entry.sameSetup_counted _ _
    · exact .refl _
  exact State.members_congr (fun j => (hsetup j).address) fun j => State.isMember_sameSetup (hsetup j)

/-- What staging a value for a member does to the staging, the groups and the commit-wait list (R52 to R54). -/
theorem State.stage_spec (u : State) (g : Fin 8) (i : Fin 48) (w : Int) :
    ((u.group g).state = .commitWait → (u.stage g i w).groups = u.groups ∧ (u.stage g i w).commitWait = u.commitWait) ∧
    ((u.group g).state ≠ .commitWait → (∀ j ∈ u.members g, j ≠ i → (u.stagedValue j).isSome = true) →
      (u.stage g i w).group g = { u.group g with state := .commitWait, remaining := none, mark := some u.accepted } ∧
        (u.stage g i w).commitWait = u.commitWait ++ [g]) ∧
    ((u.group g).state ≠ .commitWait → ¬ (∀ j ∈ u.members g, j ≠ i → (u.stagedValue j).isSome = true) →
      (u.stage g i w).commitWait = u.commitWait ∧ (u.stage g i w).group g =
        if (u.group g).state = .idle then { u.group g with state := .opened, remaining := some (u.group g).timeout }
        else u.group g) := by
  refine ⟨fun hwait => ?_, fun hwait hall => ?_, fun hwait hall => ?_⟩
  · rw [State.stage_waiting hwait]
    exact ⟨rfl, rfl⟩
  · rw [State.stage_completes hwait ((State.allStaged_setStaged w g).mpr hall)]
    exact ⟨State.group_setGroup_self _ _ _, rfl⟩
  · have hnot : (u.setStaged i (some w)).allStaged g = false := by
      rw [Bool.eq_false_iff, ne_eq, State.allStaged_setStaged]
      exact hall
    cases hstate : (u.group g).state with
    | commitWait => exact absurd hstate hwait
    | opened =>
      rw [State.stage_continues hstate hnot, if_neg nofun]
      exact ⟨rfl, rfl⟩
    | idle =>
      rw [State.stage_opens hstate hnot, if_pos rfl]
      exact ⟨rfl, State.group_setGroup_self _ _ _⟩

/-- Settles O19: the value is staged in the state that the violation, if any, leaves. -/
theorem memberWriteStaged : Obligations.MemberWriteStaged := by
  intro r s u i g v w own own' h hgroup hu
  have hexec : exec (.acceptance r) s = .next (u.stage g i w) := by
    rcases hu with ⟨hany, rfl, rfl⟩ | ⟨hany, ha, rfl⟩
    · have hj := h.judge.trans (State.judgeValue_conforming (s := s.countAcceptance) hany)
      rw [State.admitWrite_grouped (s := s.countAcceptance) hgroup] at hj
      rw [h.exec_answered hj, ← State.stage_withSlots]
      rfl
    · have hj := h.judge.trans (State.judgeValue_admits (s := s.countAcceptance) hany ha)
      rw [State.admitWrite_grouped ((s.countAcceptance.enabledGroup_violated i _ _).trans hgroup)] at hj
      rw [h.exec_answered hj, ← State.stage_withSlots, ← State.withSlots_countAcceptance, State.afterViolation_withSlots]
      rfl
  have hsame : u.groups = s.groups ∧ u.commitWait = s.commitWait ∧ u.staged = s.staged ∧ u.accepted = s.accepted + 1 ∧
      u.members g = s.members g := by
    rcases hu with ⟨-, -, rfl⟩ | ⟨-, -, rfl⟩
    · exact ⟨rfl, rfl, rfl, rfl, State.members_congr (fun _ => rfl) fun _ => rfl⟩
    · rw [State.members_afterViolation, State.afterViolation_frame]
      exact ⟨rfl, rfl, rfl, rfl, State.members_congr (fun _ => rfl) fun _ => rfl⟩
  obtain ⟨hgroups, hwait, hstaged, haccepted, hmembers⟩ := hsame
  have hgroup' (k : Fin 8) : u.group k = s.group k := by rw [State.group, State.group, hgroups]
  have hstaged' (j : Fin 48) : u.stagedValue j = s.stagedValue j := by rw [State.stagedValue, State.stagedValue, hstaged]
  obtain ⟨hwaiting, hcompletes, hopens⟩ := u.stage_spec g i w
  simp only [hgroup', hstaged', hmembers, hgroups, hwait, haccepted] at hwaiting hcompletes hopens
  refine ⟨_, hexec, ?_, ?_, fun j hj => ?_, fun k hk => ?_, hwaiting, hcompletes, hopens⟩
  · exact State.stage_frame _ _ _ _
  · rw [State.stagedValue_stage, if_pos rfl]
  · rw [State.stagedValue_stage, if_neg (Ne.symm hj), hstaged']
  · rw [State.group_stage_ne hk, hgroup']

end Sys2Proof.Machine
end

section
/-! SUPPORT. Reads over staged bytes (R65, R66), and the clamp at a window outside the limits (R39). -/

namespace Sys2Proof.Machine

variable {s : State} {r : NpRequest} {i : Fin 48}

/-! ## The staged bytes (R65) -/

/-- The byte that an entry's staged value gives an address. -/
def State.stagedByteOf (s : State) (a : Nat) (i : Fin 48) : Option Byte :=
  match s.stagedValue i, s.enabledGroup (s.entry i) with
  | some v, some _ => if (s.entry i).occupied && (s.entry i).meets a 1 then
      some (byteAt (valueWord v) (a - (s.entry i).address.toNat)) else none
  | _, _ => none

theorem State.stagedByte_eq (s : State) (a : Nat) : s.stagedByte a = (List.finRange 48).findSome? (s.stagedByteOf a) := rfl

theorem State.stagedByteOf_eq_some {a : Nat} {b : Byte} : s.stagedByteOf a i = some b ↔
    ∃ g v, s.isMember g i = true ∧ (s.group g).enabled = true ∧ s.stagedValue i = some v ∧
      (s.entry i).address.toNat ≤ a ∧ a < (s.entry i).address.toNat + (s.entry i).width.bytes ∧
      b = byteAt (valueWord v) (a - (s.entry i).address.toNat) := by
  unfold State.stagedByteOf
  constructor
  · intro h
    split at h
    · next v g hv hg =>
      obtain ⟨hgroup, hen⟩ := State.enabledGroup_eq_some.mp hg
      split at h
      · next hmeets =>
        simp only [Bool.and_eq_true, Entry.occupied_iff, Entry.meets, rangesMeet, decide_eq_true_eq] at hmeets
        obtain ⟨hocc, hlow, hhigh⟩ := hmeets
        exact ⟨g, v, State.isMember_iff.mpr ⟨hocc, hgroup⟩, hen, hv, by omega, hhigh, (Option.some.inj h).symm⟩
      · cases h
    · cases h
  · rintro ⟨g, v, hmem, hen, hv, hlow, hhigh, rfl⟩
    obtain ⟨hocc, hgroup⟩ := State.isMember_iff.mp hmem
    have hg : s.enabledGroup (s.entry i) = some g := State.enabledGroup_eq_some.mpr ⟨hgroup, hen⟩
    rw [hv, hg]
    refine if_pos ?_
    simp only [Bool.and_eq_true, Entry.occupied_iff, Entry.meets, rangesMeet, decide_eq_true_eq]
    exact ⟨hocc, by omega, hhigh⟩

/-- What one element alone finds is found. -/
theorem findSome_eq_of_unique {α β : Type} {f : α → Option β} {a : α} : ∀ {l : List α}, a ∈ l →
    (∀ x ∈ l, (f x).isSome = true → x = a) → l.findSome? f = f a
  | x :: l, ha, huniq => by
    rw [List.findSome?_cons]
    split
    · next b hb => rw [← huniq x List.mem_cons_self (by rw [hb]; rfl), hb]
    · next hb =>
      rcases List.mem_cons.mp ha with rfl | hmem
      · rw [hb, List.findSome?_eq_none_iff]
        intro y hy
        refine Classical.byContradiction fun hne => ?_
        have hya := huniq y (List.mem_cons_of_mem _ hy) (Option.isSome_iff_ne_none.mpr hne)
        rw [hya] at hne
        exact hne hb
      · exact findSome_eq_of_unique hmem fun y hy => huniq y (List.mem_cons_of_mem _ hy)

/-- Entries that do not overlap give an address at most one staged byte (R16). -/
theorem State.Placed.stagedByte (hs : s.Placed) {a : Nat} {b : Byte} (h : s.stagedByteOf a i = some b) :
    s.stagedByte a = some b := by
  rw [State.stagedByte_eq, findSome_eq_of_unique (List.mem_finRange i), h]
  intro j _ hj
  obtain ⟨b', hb'⟩ := Option.isSome_iff_exists.mp hj
  obtain ⟨_, _, hi, -, -, hilow, hihigh, -⟩ := State.stagedByteOf_eq_some.mp h
  obtain ⟨_, _, hj, -, -, hjlow, hjhigh, -⟩ := State.stagedByteOf_eq_some.mp hb'
  refine Classical.byContradiction fun hne => ?_
  have := hs.apart j i hne (State.isMember_iff.mp hj).1 (State.isMember_iff.mp hi).1
  omega

/-! ## The overlay (R66) -/

theorem byteAt_zero (j : Nat) : byteAt 0 j = 0 := by
  simp [byteAt]

theorem applyOverlay_zero (o : List (Option Byte)) : applyOverlay 0 o = wordOfBytes (o.map fun b => b.getD 0) := by
  have hmap : (o.zipIdx.map fun p => p.1.getD (byteAt 0 p.2)) = (o.zipIdx.map Prod.fst).map fun b => b.getD 0 := by
    rw [List.map_map]
    refine List.map_congr_left fun p _ => ?_
    rw [byteAt_zero]
    rfl
  rw [applyOverlay, hmap, List.zipIdx_map_fst]

/-- Settles O20: by whether the staged bytes cover all, some or none of the read. -/
theorem readDisposedByStagedBytes : Obligations.ReadDisposedByStagedBytes := by
  refine ⟨fun r s o hroom hop ht ho => ?_, fun s hs => ⟨fun i g v k hmem hen hv hk => ?_, fun a ha => ?_⟩⟩
  · have hm := not_malformed_of_target ht
    have hoverlay : s.countAcceptance.readOverlay r = o := by
      rw [ho, ← requestWidth_bytes (wcode_of_not_malformed hm)]; rfl
    have hne : o ≠ [] := by
      rw [ho]; simp
    have hj := State.judge_read (s := s.countAcceptance) hop ht
    have hdata : requestData r = 0 := by simp [requestData, hop]
    refine ⟨s.acceptedSlot r, by rw [exec_acceptance_judged hroom, hj]; rfl, ?_⟩
    rw [State.acceptedSlot, hj, State.judgeRead, hoverlay]
    dsimp only
    by_cases hall : ∀ b ∈ o, b.isSome = true
    · rw [if_pos (List.all_eq_true.mpr hall)]
      refine ⟨rfl, rfl, hop, rfl, rfl, hdata, rfl, rfl, fun _ => ⟨rfl, by rw [← applyOverlay_zero]; rfl⟩, fun hnone => ?_,
        fun _ ⟨b, hb, hnone⟩ => ?_⟩
      · obtain ⟨b, hb⟩ := List.exists_mem_of_ne_nil o hne
        have := hall b hb
        rw [hnone b hb] at this; cases this
      · have := hall b hb
        rw [hnone] at this; cases this
    · rw [if_neg fun h => hall (List.all_eq_true.mp h)]
      by_cases hany : ∃ b ∈ o, b.isSome = true
      · rw [if_pos (List.any_eq_true.mpr hany)]
        refine ⟨rfl, rfl, hop, rfl, rfl, hdata, rfl, rfl, fun h => absurd h hall, fun hnone => ?_, fun _ _ => ⟨rfl, rfl⟩⟩
        obtain ⟨b, hb, hsome⟩ := hany
        rw [hnone b hb] at hsome; cases hsome
      · rw [if_neg fun h => hany (List.any_eq_true.mp h)]
        exact ⟨rfl, rfl, hop, rfl, rfl, rfl, rfl, rfl, fun h => absurd h hall, fun _ => ⟨rfl, rfl⟩, fun h => absurd h hany⟩
  · have hbyte : s.stagedByteOf ((s.entry i).address.toNat + k) i = some (byteAt (valueWord v) k) :=
      State.stagedByteOf_eq_some.mpr ⟨g, v, hmem, hen, hv, by omega, by omega, by rw [Nat.add_sub_cancel_left]⟩
    exact hs.stagedByte hbyte
  · rw [State.stagedByte_eq, List.findSome?_eq_none_iff]
    intro i _
    refine Classical.byContradiction fun hne => ?_
    obtain ⟨b, hb⟩ := Option.ne_none_iff_exists'.mp hne
    obtain ⟨g, v, hmem, hen, hv, hlow, hhigh, -⟩ := State.stagedByteOf_eq_some.mp hb
    rcases ha i g hmem hen (by rw [hv]; rfl) with h | h <;> omega

/-! ## The clamp outside the target (R39) -/

/-- Settles O22: the target is empty, and the window's nearer end is taken. -/
theorem clampWalksTowardTheLimits : Obligations.ClampWalksTowardTheLimits := by
  intro e v ref hstep href htype hordered hlimits
  obtain ⟨hmin, hmax⟩ := inType_iff.mp htype
  have hwindow : e.windowLow = max (e.width.typeMin e.signed) (ref - e.step) ∧
      e.windowHigh = min (e.width.typeMax e.signed) (ref + e.step) := by
    simp [Entry.windowLow, Entry.windowHigh, href, hstep]
  refine ⟨fun l hl hlt => ?_, fun h hh hlt => ?_⟩
  · have hlow : e.clampLow = l := by simp [Entry.clampLow, hl]
    have hltype := inType_iff.mp (hlimits l (.inl hl))
    simp only [Entry.clamped, hlow, hwindow.1, hwindow.2]
    rw [if_neg (by omega), if_pos (by omega)]
    omega
  · have hhigh : e.clampHigh = h := by simp [Entry.clampHigh, hh]
    have hhtype := inType_iff.mp (hlimits h (.inr hh))
    have hlow : e.clampLow ≤ h := by
      cases hl : e.low with
      | none => simpa [Entry.clampLow, hl] using hhtype.1
      | some l => simpa [Entry.clampLow, hl] using hordered l h hl hh
    simp only [Entry.clamped, hhigh, hwindow.1, hwindow.2]
    rw [if_neg (by omega), if_neg (by omega)]
    omega

end Sys2Proof.Machine
end

section
/-! SUPPORT. The values compared and the checks made (R2, R3, R5, R6, R30, R127, R161). -/

namespace Sys2Proof.Machine

/-! ## Words as numbers -/

theorem toNat_keepLow (w : Width) (x : Word) : (keepLow w x).toNat = x.toNat % 2 ^ (8 * w.bytes) := by
  rw [keepLow, BitVec.toNat_and]
  cases w
  · exact Nat.and_two_pow_sub_one_eq_mod x.toNat 8
  · exact Nat.and_two_pow_sub_one_eq_mod x.toNat 16
  · exact Nat.and_two_pow_sub_one_eq_mod x.toNat 32

theorem readValue_eq (w : Width) (signed : Bool) (x : Word) {n : Nat} (hn : n = x.toNat % 2 ^ (8 * w.bytes)) :
    readValue w signed x =
      if signed = true ∧ 2 ^ (8 * w.bytes - 1) ≤ n then (n : Int) - 2 ^ (8 * w.bytes) else (n : Int) := by
  have hlow : (x.setWidth (8 * w.bytes)).toNat = n := by rw [BitVec.toNat_setWidth, hn]
  cases signed with
  | false => simp [readValue, hlow]
  | true =>
    simp only [readValue, if_true, BitVec.toInt_eq_toNat_cond, hlow, true_and]
    have hpow : ((2 ^ (8 * w.bytes) : Nat) : Int) = 2 ^ (8 * w.bytes) := by cases w <;> rfl
    have hhalf : 2 ^ (8 * w.bytes) = 2 * 2 ^ (8 * w.bytes - 1) := by cases w <;> rfl
    rw [hpow]
    by_cases h : 2 ^ (8 * w.bytes - 1) ≤ n
    · rw [if_pos h, if_neg (by omega)]
    · rw [if_neg h, if_pos (by omega)]

theorem fieldValue_eq (signed : Bool) (x : Word) : fieldValue signed x =
    if signed = true ∧ 2 ^ 31 ≤ x.toNat then (x.toNat : Int) - 2 ^ 32 else (x.toNat : Int) := by
  cases signed with
  | false => simp [fieldValue]
  | true =>
    simp only [fieldValue, if_true, BitVec.toInt_eq_toNat_cond, true_and]
    split <;> split <;> omega

theorem toNat_valueWord (v : Int) : ((valueWord v).toNat : Int) = v % 2 ^ 32 := by
  rw [valueWord, BitVec.toNat_ofInt]
  omega

theorem toNat_byteAt (x : Word) (j : Nat) : (byteAt x j).toNat = x.toNat / 256 ^ j % 256 := by
  rw [byteAt, BitVec.extractLsb'_toNat, Nat.shiftRight_eq_div_pow, Nat.pow_mul]

theorem leNat_lt : ∀ bytes : List Byte, leNat bytes < 256 ^ bytes.length
  | [] => by simp [leNat]
  | b :: bs => by
    have hb := b.isLt
    have hbs := leNat_lt bs
    rw [leNat, List.length_cons, Nat.pow_succ]
    omega

theorem toNat_wordOfBytes : ∀ bytes : List Byte, bytes.length ≤ 4 → (wordOfBytes bytes).toNat = leNat bytes
  | [], _ => rfl
  | b :: bs, h => by
    have hb := b.isLt
    have hlen : bs.length ≤ 3 := Nat.le_of_succ_le_succ h
    have hbs : leNat bs < 2 ^ 24 := Nat.lt_of_lt_of_le (leNat_lt bs) (Nat.pow_le_pow_right (n := 256) (by decide) hlen)
    have htail := toNat_wordOfBytes bs (by omega)
    rw [wordOfBytes, BitVec.toNat_or, BitVec.toNat_shiftLeft, BitVec.toNat_setWidth, htail, leNat,
      Nat.mod_eq_of_lt (by omega : b.toNat < 2 ^ 32), Nat.shiftLeft_eq, Nat.mod_eq_of_lt (by omega), Nat.or_comm,
      ← Nat.shiftLeft_eq, ← Nat.shiftLeft_add_eq_or_of_lt hb, Nat.shiftLeft_eq]
    omega

/-! ## Types (R2) -/

theorem readValue_valueData {w : Width} {signed : Bool} {v : Int} (h : inType w signed v = true) :
    readValue w signed (valueData w v) = v := by
  obtain ⟨hmin, hmax⟩ := inType_iff.mp h
  have hword := toNat_valueWord v
  rw [readValue_eq w signed _ rfl, valueData, toNat_keepLow]
  cases signed with
  | false => cases w <;> simp [Width.typeMin, Width.typeMax, Width.bytes] at hmin hmax ⊢ <;> omega
  | true => cases w <;> simp [Width.typeMin, Width.typeMax, Width.bytes] at hmin hmax ⊢ <;> split <;> omega

theorem toNat_valueData_lt (w : Width) (v : Int) : (valueData w v).toNat < 2 ^ (8 * w.bytes) := by
  rw [valueData, toNat_keepLow]
  exact Nat.mod_lt _ (Nat.two_pow_pos _)

/-! ## The checks (R5, R6, R30, R31) -/

theorem belowLow_iff {low : Option Int} {v : Int} : belowLow low v = true ↔ ∃ l, low = some l ∧ v < l := by
  cases low <;> simp [belowLow]

theorem aboveHigh_iff {high : Option Int} {v : Int} : aboveHigh high v = true ↔ ∃ h, high = some h ∧ h < v := by
  cases high <;> simp [aboveHigh]

theorem beyondStep_iff {step : Nat} {reference : Option Int} {v : Int} :
    beyondStep step reference v = true ↔ ∃ ref, reference = some ref ∧ 0 < step ∧ step < (v - ref).natAbs := by
  cases reference <;> simp [beyondStep]

theorem Failed.sticky_eq (f : Failed) : f.sticky =
    (if f.low then 0x01 else 0) + (if f.high then 0x02 else 0) + (if f.step then 0x04 else 0) := by
  obtain ⟨low, high, step⟩ := f
  revert low high step
  decide

/-- Settles O11. -/
theorem checksCompareExactValues : Obligations.ChecksCompareExactValues := by
  refine ⟨fun w signed x n hn => ⟨(toNat_keepLow w x).trans hn.symm, readValue_eq w signed x hn⟩,
    fun signed x v j bytes => ⟨fieldValue_eq signed x, toNat_valueWord v, toNat_byteAt x j, toNat_wordOfBytes bytes⟩,
    fun w signed v => ⟨?_, ?_, inType_iff, readValue_valueData, toNat_valueData_lt w v, ?_, ?_, ?_⟩,
    fun e v => ⟨belowLow_iff, aboveHigh_iff, beyondStep_iff, ?_, Failed.sticky_eq _⟩⟩
  · cases signed <;> cases w <;> rfl
  · cases signed <;> cases w <;> rfl
  · cases w <;> rfl
  · cases w <;> rfl
  · cases w <;> rfl
  · simp [Failed.any, or_assoc]

end Sys2Proof.Machine
end

section
/-! SUPPORT. The far arbiter's grants and the issue of slots and fallbacks (R80, R89, R94 to R97, R99, R117). -/

namespace Sys2Proof.Machine

variable {s : State}

/-! ## Issues (R80, R89, R99, R117) -/

theorem slotRequest_eq (x : Slot) : slotRequest x = {
    op := x.op, width := Width.ofCode x.wcode, address := x.address
    data := if x.op = .read then 0 else x.data } := by
  cases hop : x.op <;> simp [slotRequest, hop]

theorem State.issueFallbackOf_eq {i : Fin 48} {v : Int} (hv : (s.entry i).fallback = some v) : s.issueFallbackOf i =
    (s.setEntry i { s.entry i with reference := some v, mark := none }).issueRequest (.fallback i) {
      op := .write, width := (s.entry i).width, address := (s.entry i).address
      data := valueData (s.entry i).width v } := by
  unfold State.issueFallbackOf
  dsimp only
  split
  · next w hw => rw [hv] at hw; cases hw; rfl
  · next hnone => rw [hv] at hnone; cases hnone

/-- Settles O24. -/
theorem slotsAndFallbacksIssued : Obligations.SlotsAndFallbacksIssued := by
  refine ⟨fun s x pre post q hgrant hslots hpre hx hq => ?_, fun s i v q hgrant hv hq => ?_⟩
  · show Host.Outcome.next s.issueSlot = _
    rw [State.issueSlot, hgrant, State.controllerCandidate_append hslots hpre hx]
    dsimp only
    rw [slotRequest_eq, ← hq, hslots, markIssued_append hpre hx]
    rfl
  · show Host.Outcome.next s.issueFallback = _
    rw [State.issueFallback, hgrant, hq]
    exact congrArg Host.Outcome.next (State.issueFallbackOf_eq hv)

/-! ## Rows whose candidate is not granted -/

theorem exec_issue_ungranted (h : s.grant ≠ some .controller) : exec .issue s = .next s := by
  show Host.Outcome.next s.issueSlot = _
  unfold State.issueSlot
  split
  · next hg _ => exact absurd hg h
  · rfl

theorem exec_commitMemberWrite_ungranted (h : s.grant ≠ some .commitWrite) : exec .commitMemberWrite s = .next s := by
  show Host.Outcome.next s.commitMemberWrite = _
  unfold State.commitMemberWrite
  split
  · next hg => exact absurd hg h
  · rfl

theorem exec_commitStart_ungranted (h : ∀ g, s.grant ≠ some (.commitStart g)) : exec .commitStart s = .next s := by
  show Host.Outcome.next s.commitStart = _
  unfold State.commitStart
  split
  · next g hg => exact absurd hg (h g)
  · rfl

theorem exec_fallbackIssue_ungranted (h : ∀ i, s.grant ≠ some (.fallback i)) : exec .fallbackIssue s = .next s := by
  show Host.Outcome.next s.issueFallback = _
  unfold State.issueFallback
  split
  · next i hg => exact absurd hg (h i)
  · rfl

theorem exec_posting_ungranted (h : s.grant ≠ some .posting) :
    exec .ownershipRead s = .next s ∧ exec .ringRecordWrite s = .next s := by
  constructor
  · show Host.Outcome.next s.ownershipRead = _
    unfold State.ownershipRead
    split
    · next hg _ => exact absurd hg h
    · rfl
  · show Host.Outcome.next s.ringRecordWrite = _
    unfold State.ringRecordWrite
    split
    · next hg _ _ => exact absurd hg h
    · rfl

/-! ## Standing candidates (R94, R95) -/

theorem State.mem_placed_fallback {j : Fin 48} {n : Nat} (hn : (s.entry j).mark = some n)
    (hp : s.placedBefore n = true) : (n, Grant.fallback j) ∈ s.placedCandidates :=
  State.mem_placedCandidates.mpr ⟨State.mem_internalCandidates.mpr (.inl ⟨j, hn, rfl⟩), hp⟩

theorem State.mem_placed_commit {g : Fin 8} {n : Nat} (hg : s.commitWait.head? = some g) (hn : (s.group g).mark = some n)
    (hp : s.placedBefore n = true) : (n, Grant.commitStart g) ∈ s.placedCandidates :=
  State.mem_placedCandidates.mpr ⟨State.mem_internalCandidates.mpr (.inr ⟨g, hg, hn, rfl⟩), hp⟩

/-- The first of the placed candidates has the least mark, and of equal marks it stands first in the list (R97). -/
theorem State.firstByMark_placed {m : Nat} {k : Grant} (h : firstByMark s.placedCandidates = some (m, k)) :
    (m, k) ∈ s.placedCandidates ∧ ∀ c ∈ s.placedCandidates, m < c.1 ∨ c = (m, k) ∨
      m ≤ c.1 ∧ ∃ i, k = .fallback i ∧ ∀ j, c.2 = .fallback j → i < j := by
  obtain ⟨pre, post, hl, hpre, hpost⟩ := firstByMark_some h
  have hpair : s.placedCandidates.Pairwise fun c d => ∃ i, c.2 = .fallback i ∧ ∀ j, d.2 = .fallback j → i < j :=
    s.pairwise_internalCandidates.filter _
  rw [hl, List.pairwise_append, List.pairwise_cons] at hpair
  obtain ⟨-, ⟨hafter, -⟩, -⟩ := hpair
  refine ⟨by rw [hl]; simp, fun c hc => ?_⟩
  rw [hl, List.mem_append, List.mem_cons] at hc
  rcases hc with hc | rfl | hc
  · exact .inl (hpre c hc)
  · exact .inr (.inl rfl)
  · exact .inr (.inr ⟨hpost c hc, hafter c hc⟩)

/-- An internal grant is the first of the placed candidates. -/
theorem State.grant_internal {k : Grant} (h : s.grant = some k) (hc : k ≠ .controller) (hp : k ≠ .posting)
    (hw : k ≠ .commitWrite) : ∃ m, firstByMark s.placedCandidates = some (m, k) := by
  rcases (State.grant_some_cases h).2 with ⟨-, hk⟩ | ⟨-, hk⟩
  · exact absurd hk hw
  · exact State.openChoice_internal hk hc hp

theorem State.grant_fallback {i : Fin 48} (h : s.grant = some (.fallback i)) :
    ∃ m, (s.entry i).mark = some m ∧ s.placedBefore m = true ∧
      (∀ j n, (s.entry j).mark = some n → s.placedBefore n = true → m ≤ n ∧ (n = m → i ≤ j)) ∧
      ∀ g n, s.commitWait.head? = some g → (s.group g).mark = some n → s.placedBefore n = true → m ≤ n := by
  obtain ⟨m, hf⟩ := State.grant_internal h nofun nofun nofun
  obtain ⟨hmem, hfirst⟩ := State.firstByMark_placed hf
  obtain ⟨hinternal, hplaced⟩ := State.mem_placedCandidates.mp hmem
  rcases State.mem_internalCandidates.mp hinternal with ⟨i', hmark, hi⟩ | ⟨g, -, -, hi⟩
  · cases hi
    refine ⟨m, hmark, hplaced, fun j n hn hp => ?_, fun g n hg hn hp => ?_⟩
    · rcases hfirst _ (State.mem_placed_fallback hn hp) with hlt | heq | ⟨hle, i', hi', hbefore⟩
      · exact ⟨Nat.le_of_lt hlt, fun hnm => absurd hlt (by simp [hnm])⟩
      · cases heq; exact ⟨Nat.le_refl _, fun _ => Nat.le_refl _⟩
      · cases hi'; exact ⟨hle, fun _ => Nat.le_of_lt (hbefore j rfl)⟩
    · rcases hfirst _ (State.mem_placed_commit hg hn hp) with hlt | heq | ⟨hle, -⟩
      · exact Nat.le_of_lt hlt
      · cases heq
      · exact hle
  · cases hi

theorem State.grant_commitStart {g : Fin 8} (h : s.grant = some (.commitStart g)) : s.commitWait.head? = some g ∧
    ∃ m, (s.group g).mark = some m ∧ s.placedBefore m = true ∧
      ∀ j n, (s.entry j).mark = some n → s.placedBefore n = true → m < n := by
  obtain ⟨m, hf⟩ := State.grant_internal h nofun nofun nofun
  obtain ⟨hmem, hfirst⟩ := State.firstByMark_placed hf
  obtain ⟨hinternal, hplaced⟩ := State.mem_placedCandidates.mp hmem
  rcases State.mem_internalCandidates.mp hinternal with ⟨i, -, hi⟩ | ⟨g', hhead, hmark, hi⟩
  · cases hi
  · cases hi
    refine ⟨hhead, m, hmark, hplaced, fun j n hn hp => ?_⟩
    rcases hfirst _ (State.mem_placed_fallback hn hp) with hlt | heq | ⟨-, i, hi, -⟩
    · exact hlt
    · cases heq
    · cases hi

theorem State.grant_openChoice {k : Grant} (h : s.grant = some k) (hk : k ≠ .commitWrite) :
    s.commitBuffer = [] ∧ s.openChoice = some k := by
  rcases (State.grant_some_cases h).2 with ⟨-, hw⟩ | hopen
  · exact absurd hw hk
  · exact hopen

theorem State.grant_controller (h : s.grant = some .controller) : (∃ x ∈ s.slots, x.state = .waitIssue) ∧
    (∀ j n, (s.entry j).mark = some n → s.placedBefore n = false) ∧
    ∀ g n, s.commitWait.head? = some g → (s.group g).mark = some n → s.placedBefore n = false := by
  obtain ⟨hnone, hc⟩ := State.openChoice_controller (State.grant_openChoice h nofun).2
  have hnot {c : Nat × Grant} (hmem : s.placedBefore c.1 = true → c ∈ s.placedCandidates) :
      s.placedBefore c.1 = false := by
    rw [hnone] at hmem
    simpa using hmem
  refine ⟨?_, fun j n hn => hnot (c := (n, .fallback j)) (State.mem_placed_fallback hn),
    fun g n hg hn => hnot (c := (n, .commitStart g)) (State.mem_placed_commit hg hn)⟩
  refine Classical.byContradiction fun hall => ?_
  have hcand : s.controllerCandidate = none := State.controllerCandidate_none.mpr fun x hx hw => hall ⟨x, hx, hw⟩
  rw [hcand] at hc
  cases hc

/-- With no slot to be issued and no candidate placed first, no entry and no waiting group carries a mark. -/
theorem State.no_marks (hc : s.controllerCandidate = none) (hp : s.placedCandidates = []) :
    (∀ i, (s.entry i).mark = none) ∧ ∀ g, s.commitWait.head? = some g → (s.group g).mark = none := by
  have hnil := State.internalCandidates_eq_nil hc hp
  have hnot {c : Nat × Grant} (hmem : c ∈ s.internalCandidates) : False := by simp [hnil] at hmem
  refine ⟨fun i => ?_, fun g hg => ?_⟩
  · refine Classical.byContradiction fun hne => ?_
    obtain ⟨n, hn⟩ := Option.ne_none_iff_exists'.mp hne
    exact hnot (c := (n, .fallback i)) (State.mem_internalCandidates.mpr (.inl ⟨i, hn, rfl⟩))
  · refine Classical.byContradiction fun hne => ?_
    obtain ⟨n, hn⟩ := Option.ne_none_iff_exists'.mp hne
    exact hnot (c := (n, .commitStart g)) (State.mem_internalCandidates.mpr (.inr ⟨g, hg, hn, rfl⟩))

/-- An open arbiter that grants nothing has no candidate. -/
theorem State.grant_none (hopen : s.grantOpen = true) (h : s.grant = none) :
    (∀ x ∈ s.slots, x.state ≠ .waitIssue) ∧ (∀ i, (s.entry i).mark = none) ∧
      (∀ g, s.commitWait.head? = some g → (s.group g).mark = none) ∧
      ¬ (s.ringState = .running ∧ s.records ≠ [] ∧ (s.posting = .idle ∨ ∃ w, s.posting = .offered w)) := by
  have hbuffer : s.commitBuffer = [] := by
    refine Classical.byContradiction fun hne => ?_
    rw [State.grant_run_eq hopen hne] at h
    cases h
  rw [State.grant_eq hopen hbuffer] at h
  obtain ⟨hplaced, hc, hoffered⟩ := State.openChoice_none h
  obtain ⟨hentries, hgroups⟩ := State.no_marks hc hplaced
  refine ⟨State.controllerCandidate_none.mp hc, hentries, hgroups, fun hpost => ?_⟩
  rw [State.postingOffered_iff.mpr hpost] at hoffered
  cases hoffered

/-- Settles O25, grant by grant. -/
theorem farArbiterGrantsByOrderMark : Obligations.FarArbiterGrantsByOrderMark := by
  intro s
  refine ⟨fun h => ?_, fun hreset hlog hdrain hbuffer => ?_, fun h => ?_, fun i => State.grant_fallback,
    fun g => State.grant_commitStart, State.grant_controller, fun hreset hlog hdrain =>
      State.grant_none (State.grantOpen_iff.mpr ⟨hreset, hlog, hdrain⟩), exec_issue_ungranted,
    exec_commitMemberWrite_ungranted, exec_commitStart_ungranted, exec_fallbackIssue_ungranted, exec_posting_ungranted⟩
  · have hclosed : ¬ s.grantOpen = true := fun hopen => by
      obtain ⟨hreset, hlog, hdrain⟩ := State.grantOpen_iff.mp hopen
      rcases h with h | h | h
      · rw [hreset] at h; cases h
      · omega
      · exact h hdrain
    rw [State.grant, if_neg hclosed]
  · exact State.grant_run_eq (State.grantOpen_iff.mpr ⟨hreset, hlog, hdrain⟩) hbuffer
  · rcases (State.grant_some_cases h).2 with ⟨hb, -⟩ | ⟨-, hk⟩
    · exact hb
    · exact absurd hk State.openChoice_ne_commitWrite

/-- Settles O26. -/
theorem postingGrantedLast : Obligations.PostingGrantedLast := by
  intro s hs h
  obtain ⟨hbuffer, hchoice⟩ := State.grant_openChoice h nofun
  obtain ⟨hplaced, hc, hoffered⟩ := State.openChoice_posting hchoice
  obtain ⟨hentries, hgroups⟩ := State.no_marks hc hplaced
  have hwait : s.commitWait = [] := by
    cases hl : s.commitWait with
    | nil => rfl
    | cons g gs =>
      have hstate : (s.group g).state = .commitWait := (hs.listed g).mp (by simp [hl])
      have hmark := (hs.marked g).mpr hstate
      rw [hgroups g (by simp [hl])] at hmark
      cases hmark
  exact ⟨hbuffer, State.controllerCandidate_none.mp hc, hentries, hwait, State.postingOffered_iff.mp hoffered⟩

/-- The number of acceptances at which a slot of the queue was accepted is its acceptance number's residue (R75, R76). -/
theorem State.TransitLawful.number_at (hs : s.TransitLawful) {x : Slot} {pre post : List Slot}
    (hslots : s.slots = pre ++ x :: post) :
    x.number = BitVec.ofNat 32 (s.accepted - s.slots.length + pre.length) := by
  have hnumbers := congrArg (fun l => l[pre.length]?) hs.numbers
  simp only [List.getElem?_map] at hnumbers
  rw [List.getElem?_range (by rw [hslots]; simp)] at hnumbers
  rw [hslots] at hnumbers ⊢
  simpa using hnumbers

/-- Settles O27: 16 slots at most, far fewer than half the numbers, so that the modular comparison is the true one. -/
theorem orderMarksPlaceCandidatesByAcceptance : Obligations.OrderMarksPlaceCandidatesByAcceptance := by
  refine fun s x pre post m hs hm => ⟨fun hnone => ?_, fun hslots hpre hx => ?_⟩
  · rw [State.placedBefore, State.controllerCandidate_none.mpr hnone]
  · obtain ⟨hle, h16⟩ := hs.fits
    have hlen : pre.length < s.slots.length := by rw [hslots]; simp
    rw [State.placedBefore, State.controllerCandidate_append hslots hpre hx]
    simp only [Bool.or_eq_true, numberAtLeast, decide_eq_true_eq, hs.number_at hslots, BitVec.toNat_sub,
      BitVec.toNat_ofNat]
    omega

end Sys2Proof.Machine
end

section
/-! SUPPORT. The members of a group in order, and commit runs (R50, R61, R62, R70, R96, R98). -/

namespace Sys2Proof.Machine

variable {s t : State} {g : Fin 8} {i : Fin 48}

/-! ## The members' order (R50) -/

/-- Entries in ascending address order. -/
def State.ByAddress (s : State) (l : List (Fin 48)) : Prop :=
  l.Pairwise fun i j => (s.entry i).address.toNat ≤ (s.entry j).address.toNat

theorem State.byAddress_insertMember (i : Fin 48) : ∀ l, s.ByAddress l → s.ByAddress (s.insertMember i l)
  | [], _ => by simp [State.ByAddress, State.insertMember]
  | j :: js, h => by
    obtain ⟨hj, hjs⟩ := List.pairwise_cons.mp h
    unfold State.insertMember
    split
    · next hle =>
      refine List.pairwise_cons.mpr ⟨fun k hk => ?_, h⟩
      rcases List.mem_cons.mp hk with rfl | hk
      · exact hle
      · exact Nat.le_trans hle (hj k hk)
    · next hgt =>
      refine List.pairwise_cons.mpr ⟨fun k hk => ?_, State.byAddress_insertMember i js hjs⟩
      rcases List.mem_cons.mp ((s.insertMember_perm i js).mem_iff.mp hk) with rfl | hk
      · omega
      · exact hj k hk

theorem State.byAddress_members (s : State) (g : Fin 8) : s.ByAddress (s.members g) := by
  unfold State.members
  induction (List.finRange 48).filter (s.isMember g) with
  | nil => exact .nil
  | cons i l ih => exact State.byAddress_insertMember i _ ih

theorem State.lowestAddress_of_head (h : (s.members g).head? = some i) : s.lowestAddress g = (s.entry i).address := by
  unfold State.lowestAddress
  cases hm : s.members g with
  | nil => rw [hm] at h; cases h
  | cons j js => rw [hm] at h; cases h; rfl

theorem State.lowestAddress_congr (haddr : ∀ j, (t.entry j).address = (s.entry j).address)
    (hmem : ∀ i, t.isMember g i = s.isMember g i) : t.lowestAddress g = s.lowestAddress g := by
  unfold State.lowestAddress
  rw [State.members_congr haddr hmem]
  cases s.members g with
  | nil => rfl
  | cons i is => exact haddr i

/-! ## The staged-member mask (R70) -/

theorem testBit_bitsNat : ∀ (bs : List Bool) (k : Nat), (bitsNat bs).testBit k = bs.getD k false
  | [], k => by simp [bitsNat]
  | b :: bs, 0 => by
    rw [bitsNat, Nat.testBit_zero]
    cases b <;> simp
  | b :: bs, k + 1 => by
    have hhalf : (b.toNat + 2 * bitsNat bs) / 2 = bitsNat bs := by cases b <;> simp; omega
    rw [bitsNat, Nat.testBit_succ, hhalf, testBit_bitsNat bs k]
    rfl

theorem State.getLsbD_stagedMask {k : Nat} (hk : k < 8) : (s.stagedMask g).getLsbD k = true ↔
    ∃ i, (s.members g)[k]? = some i ∧ (s.stagedValue i).isSome = true := by
  rw [State.stagedMask, BitVec.getLsbD_ofNat, decide_eq_true hk, Bool.true_and, testBit_bitsNat, List.getD_eq_getElem?_getD,
    List.getElem?_map, List.getElem?_take_of_lt hk]
  cases (s.members g)[k]? <;> simp

/-! ## A commit start (R61, R70) -/

/-- The state with these tables, buffer and commit-wait list. -/
def State.withTables (s : State) (es : Vector Entry 48) (gs : Vector Group 8) (ss : Vector (Option Int) 48)
    (buffer : List CommitWrite) (wait : List (Fin 8)) : State :=
  { s with entries := es, groups := gs, staged := ss, commitBuffer := buffer, commitWait := wait }

theorem State.createRecord_withTables (s : State) (es : Vector Entry 48) (gs : Vector Group 8)
    (ss : Vector (Option Int) 48) (buffer : List CommitWrite) (wait : List (Fin 8)) (d : Detail) (x : Subject)
    (a v : Word) : (s.withTables es gs ss buffer wait).createRecord d x a v =
      (s.createRecord d x a v).withTables es gs ss buffer wait := by
  cases h : s.ringState <;> simp only [State.createRecord, State.withTables, State.countLost, h] <;> split <;> rfl

theorem State.reportCommit_withTables (s : State) {es : Vector Entry 48} {gs : Vector Group 8}
    {ss : Vector (Option Int) 48} {buffer : List CommitWrite} {wait : List (Fin 8)}
    (hsetup : ∀ i, (s.entry i).SameSetup ((s.withTables es gs ss buffer wait).entry i))
    (hreport : ((s.withTables es gs ss buffer wait).group g).reportCommit = (s.group g).reportCommit) (n : Nat) :
    (s.withTables es gs ss buffer wait).reportCommit g n =
      (s.reportCommit g n).withTables es gs ss buffer wait := by
  have haddr : (s.withTables es gs ss buffer wait).lowestAddress g = s.lowestAddress g :=
    State.lowestAddress_congr (fun j => (hsetup j).address) fun j => State.isMember_sameSetup (hsetup j)
  unfold State.reportCommit
  rw [hreport, haddr, State.createRecord_withTables]
  split <;> rfl

/-- What a commit start leaves: the COMMIT record and the run's writes, beside the entries, the groups and the staging. -/
theorem State.beginCommit_eq (s : State) (g : Fin 8) : ∃ es gs ss, s.beginCommit g =
    (s.reportCommit g (s.commitWrites g).length).withTables es gs ss (s.commitWrites g)
      (s.commitWait.filter fun h => decide (h ≠ g)) := by
  refine ⟨_, _, _, s.reportCommit_withTables
    (es := (s.mapEntries (s.commitReference g)).entries)
    (gs := (((s.mapEntries (s.commitReference g)).clearStaged g).setGroup g
      { s.group g with state := .idle, remaining := none, mark := none }).groups)
    (ss := ((s.mapEntries (s.commitReference g)).clearStaged g).staged) (fun i => ?_) ?_ _⟩
  · show (s.entry i).SameSetup ((s.mapEntries (s.commitReference g)).entry i)
    rw [State.entry_mapEntries]
    exact s.sameSetup_commitReference g i _
  · show ((((s.mapEntries (s.commitReference g)).clearStaged g).setGroup g
      { s.group g with state := .idle, remaining := none, mark := none }).group g).reportCommit = _
    rw [State.group_setGroup_self]

/-! ## The writes of a run (R61, R62) -/

/-- What a write of the run carries. -/
def CommitWrite.parts (w : CommitWrite) : Fin 8 × Fin 48 × Word × Width × Option Int :=
  (w.group, w.entry, w.address, w.width, some w.value)

/-- The write of a member's staged value. -/
def State.memberWrite (s : State) (g : Fin 8) (i : Fin 48) (v : Int) : CommitWrite where
  group := g
  entry := i
  address := (s.entry i).address
  width := (s.entry i).width
  value := v

theorem State.commitWrites_eq (s : State) (g : Fin 8) :
    s.commitWrites g = (s.members g).filterMap fun i => (s.stagedValue i).map (s.memberWrite g i) := rfl

/-- With every member staged the run writes them all, in the members' order. -/
theorem State.parts_memberWrites (s : State) (g : Fin 8) : ∀ l : List (Fin 48),
    (∀ j ∈ l, (s.stagedValue j).isSome = true) →
    (l.filterMap fun i => (s.stagedValue i).map (s.memberWrite g i)).map CommitWrite.parts =
      l.map fun j => (g, j, (s.entry j).address, (s.entry j).width, s.stagedValue j)
  | [], _ => rfl
  | j :: js, h => by
    obtain ⟨v, hv⟩ := Option.isSome_iff_exists.mp (h j List.mem_cons_self)
    have htail := State.parts_memberWrites s g js fun k hk => h k (List.mem_cons_of_mem _ hk)
    rw [List.filterMap_cons, hv, List.map_cons, ← htail, hv]
    rfl

theorem State.commitReference_staged (hstaged : ∀ j, s.isMember g j = true → (s.stagedValue j).isSome = true) (j : Fin 48) :
    s.commitReference g j (s.entry j) =
      if s.isMember g j then { s.entry j with reference := s.stagedValue j } else s.entry j := by
  unfold State.commitReference
  by_cases hj : s.isMember g j = true
  · obtain ⟨v, hv⟩ := Option.isSome_iff_exists.mp (hstaged j hj)
    rw [if_pos hj, if_pos hj, hv]
  · rw [if_neg hj, if_neg hj]

theorem State.reportCommit_eq {rest : List (Fin 48)} (hmembers : s.members g = i :: rest) :
    s.reportCommit g (s.members g).length = if (s.group g).reportCommit then
      s.reportAll [{ detail := .commit (s.members g).length, subject := .group g
                     address := (s.entry i).address, value := 0 }] else s := by
  rw [State.reportCommit, State.lowestAddress_of_head (by rw [hmembers]; rfl)]
  rfl

/-- Settles O28. -/
theorem commitStartEmptiesTheStaging : Obligations.CommitStartEmptiesTheStaging := by
  refine ⟨fun s g => ⟨fun i => State.mem_members.trans State.isMember_iff, s.nodup_members g, s.byAddress_members g,
    fun i => State.isMember_iff, fun e => State.enabledGroup_eq_some, fun i => State.lowestAddress_of_head,
    fun k => State.getLsbD_stagedMask⟩, fun s g i rest v hgrant hmembers hv hrest => ?_⟩
  have hwrites : s.commitWrites g =
      s.memberWrite g i v :: rest.filterMap fun j => (s.stagedValue j).map (s.memberWrite g j) := by
    rw [State.commitWrites_eq, hmembers, List.filterMap_cons, hv]
    rfl
  have hparts := s.parts_memberWrites g rest hrest
  have hlength : (s.commitWrites g).length = (s.members g).length := by
    rw [hwrites, hmembers, List.length_cons, List.length_cons, ← List.length_map (f := CommitWrite.parts), hparts,
      List.length_map]
  have hstaged (j : Fin 48) (hj : s.isMember g j = true) : (s.stagedValue j).isSome = true := by
    have hmem : j ∈ i :: rest := by rw [← hmembers]; exact State.mem_members.mpr hj
    rcases List.mem_cons.mp hmem with rfl | hj
    · rw [hv]; rfl
    · exact hrest j hj
  have hexec : exec .commitStart s = .next (s.beginCommit g).issueCommitWrite := by
    show Host.Outcome.next s.commitStart = _
    rw [State.commitStart, hgrant]
  obtain ⟨es, gs, ss, hbegin⟩ := s.beginCommit_eq g
  refine ⟨_, hexec, ?_, ?_, fun j => ?_, fun j => ?_, ?_, fun h hh => ?_⟩
  · rw [hbegin, hlength, State.reportCommit_eq hmembers, hwrites]
    generalize hu : (if (s.group g).reportCommit = true then s.reportAll [_] else s) = u
    have hlog : s.issueLog = u.issueLog := by
      rw [← hu]
      split
      · exact (s.reportAll_judged _).issueLog.symm
      · rfl
    rw [hlog]
    rfl
  · rw [hbegin, hwrites]
    exact hparts
  · rw [State.entry_issueCommitWrite, State.entry_beginCommit, State.commitReference_staged hstaged]
  · rw [State.stagedValue_issueCommitWrite, State.stagedValue_beginCommit]
  · rw [State.group_issueCommitWrite, State.group_beginCommit, if_pos rfl]
  · rw [State.group_issueCommitWrite, State.group_beginCommit, if_neg (Ne.symm hh)]

/-! ## A run in progress (R62, R96) -/

theorem State.grant_in_run (h : s.commitBuffer ≠ []) {k : Grant} (hk : k ≠ .commitWrite) : s.grant ≠ some k :=
  fun hg => hk (State.grant_run hg h)

/-- A memory answer takes the oldest entry off the issue log, or finds the log empty. -/
theorem State.issueLog_memoryAnswer (s : State) (m : MemStatus) (d : Word) :
    (s.memoryAnswer m d).issueLog = s.issueLog.tail := by
  unfold State.memoryAnswer
  split
  · next e rest hlog => rw [State.dispatch_frame, hlog]; rfl
  · next hlog =>
    unfold State.discardAnswer
    dsimp only
    split <;> simp [hlog, State.setCause]

/-- Settles O29: in a run nothing else is granted, and only grants issue. -/
theorem commitRunIsUnbroken : Obligations.CommitRunIsUnbroken := by
  refine fun s w ws hbuffer => ⟨fun hgrant => ?_, fun c t hc hreset h => ?_⟩
  · show Host.Outcome.next s.commitMemberWrite = _
    rw [State.commitMemberWrite, hgrant]
    dsimp only
    rw [State.issueCommitWrite, hbuffer]
    rfl
  · have hne : s.commitBuffer ≠ [] := by rw [hbuffer]; nofun
    have hstay (hs : exec c s = .next s) : t.commitBuffer = s.commitBuffer ∧ t.fpRequest = s.fpRequest ∧
        (t.issueLog = s.issueLog ∨ t.issueLog = s.issueLog.tail) := by
      rw [hs] at h; cases h; exact ⟨rfl, rfl, .inl rfl⟩
    have hr := reaches_of_exec h
    cases c
    case deviceReset p => exact absurd rfl (hreset p)
    case commitMemberWrite => exact absurd rfl hc
    case issue => exact hstay (exec_issue_ungranted (State.grant_in_run hne nofun))
    case commitStart => exact hstay (exec_commitStart_ungranted fun g => State.grant_in_run hne nofun)
    case fallbackIssue => exact hstay (exec_fallbackIssue_ungranted fun i => State.grant_in_run hne nofun)
    case ownershipRead => exact hstay (exec_posting_ungranted (State.grant_in_run hne nofun)).1
    case ringRecordWrite => exact hstay (exec_posting_ungranted (State.grant_in_run hne nofun)).2
    case memoryAnswer m d =>
      have hlog : t.issueLog = s.issueLog.tail := by cases h; exact s.issueLog_memoryAnswer m d
      dsimp only [reaches] at hr
      refine ⟨by rw [hr], by rw [hr], .inr hlog⟩
    all_goals (dsimp only [reaches] at hr; exact ⟨by rw [hr], by rw [hr], .inl (by rw [hr])⟩)

end Sys2Proof.Machine
end

section
/-! SUPPORT. Postings and memory answers (R81 to R83, R93, R106, R118, R127, R132 to R136, R140, R181). -/

namespace Sys2Proof.Machine

variable {s : State}

/-! ## The words of a record (R127, R181) -/

theorem Detail.kind_lt (d : Detail) : d.kind < 16 := by cases d <;> simp [Detail.kind]

/-- The fields of word 0 stand apart, so that their sum is their places. -/
theorem Record.toNat_word_zero (r : Record) : (r.word 0).toNat =
    2 ^ 31 + r.detail.kind * 2 ^ 24 + r.sequence.toNat * 2 ^ 16 + r.subject.bits.toNat * 2 ^ 10 + r.detail.bits.toNat := by
  have hkind := r.detail.kind_lt
  have hseq := r.sequence.isLt
  have hsubject := r.subject.bits.isLt
  have hbits := r.detail.bits.isLt
  show (BitVec.ofNat 32 _).toNat = _
  rw [BitVec.toNat_ofNat]
  exact Nat.mod_eq_of_lt (by omega)

theorem toNat_extractLsb'_eq {x : Word} {start len n : Nat} (h : x.toNat / 2 ^ start % 2 ^ len = n) :
    (x.extractLsb' start len).toNat = n := by
  rw [BitVec.extractLsb'_toNat, Nat.shiftRight_eq_div_pow, h]

theorem Record.word_fields (r : Record) :
    (r.word 0).getLsbD 31 = true ∧ (r.word 0).extractLsb' 28 3 = 0 ∧
      ((r.word 0).extractLsb' 24 4).toNat = r.detail.kind ∧ (r.word 0).extractLsb' 16 8 = r.sequence ∧
      (r.word 0).extractLsb' 10 6 = r.subject.bits ∧ (r.word 0).extractLsb' 0 10 = r.detail.bits := by
  have hkind := r.detail.kind_lt
  have hseq := r.sequence.isLt
  have hsubject := r.subject.bits.isLt
  have hbits := r.detail.bits.isLt
  have hword := r.toNat_word_zero
  refine ⟨?_, BitVec.eq_of_toNat_eq (toNat_extractLsb'_eq ?_), toNat_extractLsb'_eq ?_,
    BitVec.eq_of_toNat_eq (toNat_extractLsb'_eq ?_), BitVec.eq_of_toNat_eq (toNat_extractLsb'_eq ?_),
    BitVec.eq_of_toNat_eq (toNat_extractLsb'_eq ?_)⟩
  · rw [BitVec.getLsbD, Nat.testBit_eq_decide_div_mod_eq]
    exact decide_eq_true (by omega)
  · show _ = 0
    omega
  all_goals omega

theorem Subject.bits_toNat (i : Fin 48) (g : Fin 8) :
    (Subject.entry i).bits.toNat = i.val ∧ (Subject.group g).bits.toNat = g.val + 1 ∧ Subject.nothing.bits = 63 := by
  refine ⟨?_, ?_, rfl⟩
  · exact Nat.mod_eq_of_lt (by omega : i.val < 2 ^ 6)
  · exact Nat.mod_eq_of_lt (by show g.val + 1 < 2 ^ 6; omega)

theorem Action.code_lt (a : Action) : a.code < 4 := by cases a <;> decide

theorem toNat_ofNat_ten {n m : Nat} (h : n = (BitVec.ofNat 10 m).toNat) (hm : m < 1024) : n = m := by
  rw [h, BitVec.toNat_ofNat]
  exact Nat.mod_eq_of_lt hm

/-! ## The posting's requests (R132, R134) -/

theorem State.headWord_eq (s : State) (w : Nat) :
    s.headWord w = s.ringBase + BitVec.ofNat 32 (16 * s.head + 4 * w) := by
  rw [State.headWord, BitVec.add_assoc, ← BitVec.ofNat_add]

/-- Settles O30. -/
theorem postingStepsIssued : Obligations.PostingStepsIssued := by
  refine ⟨fun s q hgrant hidle hq => ?_, fun s w r rest q hgrant hoffered hrecords hq => ?_, fun r => ?_,
    fun i g => Subject.bits_toNat i g, fun d k n hk hn => ?_, rfl, rfl, rfl⟩
  · show Host.Outcome.next s.ownershipRead = _
    rw [State.ownershipRead, hgrant, hidle, hq]
    dsimp only
    rw [State.headWord_eq]
    rfl
  · show Host.Outcome.next s.ringRecordWrite = _
    rw [State.ringRecordWrite, hgrant, hoffered, hrecords, hq]
    dsimp only
    rw [State.headWord_eq]
    rfl
  · obtain ⟨hown, hzero, hkind, hseq, hsubject, hbits⟩ := r.word_fields
    exact ⟨hown, hzero, hkind, hseq, hsubject, hbits, rfl, rfl, rfl⟩
  · subst hk
    refine ⟨?_, ?_, ?_, ?_, ?_, ?_, ?_, ?_, ?_, ?_⟩
    · rintro op wcode rfl
      have hlt := wcode.isLt
      have hop : opCode op = (if op = Op.write then 1 else 0) ∧ opCode op ≤ 1 := by cases op <;> decide
      exact ⟨rfl, (toNat_ofNat_ten hn (by omega)).trans (by rw [hop.1])⟩
    · rintro low high step a rfl
      have ha := a.code_lt
      have hlow := low.toNat_lt
      have hhigh := high.toNat_lt
      have hstep := step.toNat_lt
      have hsum : bitsNat [low, high, step] + 8 * a.code =
          low.toNat + 2 * high.toNat + 4 * step.toNat + 8 * a.code := by
        simp only [bitsNat]; omega
      exact ⟨rfl, (toNat_ofNat_ten hn (by omega)).trans hsum⟩
    · rintro a rfl
      have ha := a.code_lt
      exact ⟨rfl, toNat_ofNat_ten hn (by omega)⟩
    · rintro c a rfl hc
      have ha := a.code_lt
      exact ⟨rfl, (toNat_ofNat_ten hn (by omega)).trans (by omega)⟩
    · rintro c rfl hc
      exact ⟨rfl, (toNat_ofNat_ten hn (by omega)).trans (by omega)⟩
    · rintro p rfl
      have hp := p.toNat_lt
      exact ⟨rfl, toNat_ofNat_ten hn (by omega)⟩
    · rintro c rfl hc
      exact ⟨rfl, (toNat_ofNat_ten hn (by omega)).trans (by omega)⟩
    · rintro mask cause rfl
      have hmask := mask.isLt
      have hcause : cause.code < 3 := by cases cause <;> decide
      exact ⟨rfl, toNat_ofNat_ten hn (by omega)⟩
    · rintro origin rfl
      have horigin : origin.code < 4 := by cases origin <;> decide
      exact ⟨rfl, toNat_ofNat_ten hn (by omega)⟩
    · rintro rfl
      exact ⟨rfl, hn⟩

/-! ## Answers to controller requests (R81 to R83, R140) -/

theorem exec_memoryAnswer_of_log {e : LogEntry} {rest : List LogEntry} (h : s.issueLog = e :: rest) (m : MemStatus)
    (d : Word) : exec (.memoryAnswer m d) s = .next ({ s with issueLog := rest }.dispatch e m d) := by
  show Host.Outcome.next (s.memoryAnswer m d) = _
  rw [State.memoryAnswer, h]

/-- The slot that a memory answer is for: the one waiting slot of its number. -/
theorem find_answered {l pre post : List Slot} {x : Slot} {n : Word} (hslots : l = pre ++ x :: post) (hn : x.number = n)
    (hwait : x.state = .waitMemory) (hpre : ∀ y ∈ pre, y.number ≠ n) :
    (l.find? fun x => decide (x.number = n) && decide (x.state = .waitMemory)) = some x := by
  rw [List.find?_eq_some_iff_append]
  exact ⟨by simp [hn, hwait], pre, post, hslots, fun y hy => by simp [hpre y hy]⟩

theorem map_answerSlot_of_number {pre post : List Slot} {x : Slot} {n : Word} (hn : x.number = n)
    (hwait : x.state = .waitMemory) (hpre : ∀ y ∈ pre, y.number ≠ n) (hpost : ∀ y ∈ post, y.number ≠ n)
    (a : AnswerStatus) (d : Word) :
    (pre ++ x :: post).map (answerSlot n a d) = pre ++ { x with state := .answered a d } :: post :=
  map_answerSlot_append (fun y hy => .inl (hpre y hy)) (fun y hy => .inl (hpost y hy)) hn hwait

/-- The answer to a slot that waits, by its status and operation. -/
theorem State.answerTqSlot_found {x : Slot} {n : Word}
    (hfind : (s.slots.find? fun x => decide (x.number = n) && decide (x.state = .waitMemory)) = some x) (q : FpRequest)
    (d : Word) :
    (q.op = .write → s.answerTqSlot n q .ok d =
      { s with slots := s.slots.map (answerSlot n .done 0) }.offerWrite q) ∧
    (q.op = .read → s.answerTqSlot n q .ok d =
      { s with slots := s.slots.map (answerSlot n .done (readAnswer x d)) }) ∧
    s.answerTqSlot n q .error d = { s with slots := s.slots.map (answerSlot n .fault 0) }.memErr
      (if q.op = Op.read then .controllerRead else .controllerWrite) (slotSubject x) q.address
      (if q.op = Op.read then 0 else keepLow q.width q.data) := by
  refine ⟨fun hop => ?_, fun hop => ?_, ?_⟩
  · simp only [State.answerTqSlot, hfind, hop]
  · simp only [State.answerTqSlot, hfind, hop]
  · cases hop : q.op <;> simp [State.answerTqSlot, hfind, hop]

theorem slotSubject_eq (x : Slot) : slotSubject x = match x.covered with
    | some i => .entry i
    | none => .nothing := by
  cases hx : x.covered <;> simp [slotSubject, hx]

theorem exec_memoryAnswer_tqSlot {n : Word} {q : FpRequest} {rest : List LogEntry}
    (h : s.issueLog = { origin := .tqSlot n, request := q } :: rest) (m : MemStatus) (d : Word) :
    exec (.memoryAnswer m d) s = .next ({ s with issueLog := rest }.answerTqSlot n q m d) :=
  exec_memoryAnswer_of_log h m d

/-- Settles O31. -/
theorem controllerRequestAnswered : Obligations.ControllerRequestAnswered := by
  intro s n q rest x pre post d hlog hslots hn hwait hpre hpost
  have hfind := find_answered hslots hn hwait hpre
  obtain ⟨hwrite, hread, herror⟩ := State.answerTqSlot_found (s := { s with issueLog := rest }) hfind q d
  have hmap (a : AnswerStatus) (v : Word) :
      s.slots.map (answerSlot n a v) = pre ++ { x with state := .answered a v } :: post := by
    rw [hslots]; exact map_answerSlot_of_number hn hwait hpre hpost a v
  simp only [exec_memoryAnswer_tqSlot hlog]
  refine ⟨fun hop hring => ?_, fun hop hdisp => ?_, fun o w hop hdisp hw => ?_, ?_⟩
  · rw [hwrite hop, hmap]
    have hkept (u : State) (h : u.ringState = s.ringState) : u.offerWrite q = u :=
      State.offerWrite_of_not_suspended (h ▸ hring) q
    exact congrArg Host.Outcome.next (hkept _ rfl)
  · rw [hread hop, hmap, readAnswer, hdisp]
    rfl
  · rw [hread hop, hmap, readAnswer, hdisp, hw]
    rfl
  · rw [herror, hmap, slotSubject_eq]
    rfl

theorem State.releasesHead_iff {q : FpRequest} {own : Nat} (hown : own = s.ringBase.toNat + 16 * s.head + 3) :
    s.releasesHead q = true ↔ q.address.toNat ≤ own ∧ own < q.address.toNat + q.width.bytes ∧
      q.data.getLsbD (8 * (own - q.address.toNat) + 7) = false := by
  have hbit : (byteAt q.data (own - q.address.toNat)).getLsbD 7 = q.data.getLsbD (8 * (own - q.address.toNat) + 7) := by
    rw [getLsbD_byteAt]; rfl
  unfold State.releasesHead
  dsimp only
  rw [← hown, Bool.and_eq_true, hbit, Bool.not_eq_true', rangesMeet, Bool.and_eq_true, decide_eq_true_eq, decide_eq_true_eq,
    and_assoc]
  exact and_congr_left' (by omega)

/-- Settles O32. -/
theorem handBackOfTheHeadSlotResumesTheRing : Obligations.HandBackOfTheHeadSlotResumesTheRing := by
  intro s n q rest x pre post d own hlog hslots hn hwait hpre hpost hop hring hown
  have hfind := find_answered hslots hn hwait hpre
  obtain ⟨hwrite, -, -⟩ := State.answerTqSlot_found (s := { s with issueLog := rest }) hfind q d
  have hmap : s.slots.map (answerSlot n .done 0) = pre ++ { x with state := .answered .done 0 } :: post := by
    rw [hslots]; exact map_answerSlot_of_number hn hwait hpre hpost _ _
  simp only [exec_memoryAnswer_tqSlot hlog, hwrite hop, hmap]
  refine ⟨fun hlow hhigh hbit => ?_, fun hkept => ?_⟩
  · rw [State.offerWrite, if_pos ⟨hring, (State.releasesHead_iff hown).mpr ⟨hlow, hhigh, hbit⟩⟩]
  · have hnot : ¬ s.releasesHead q = true := by
      rw [State.releasesHead_iff hown]
      rintro ⟨hlow, hhigh, hbit⟩
      rcases hkept with h | h | h
      · omega
      · omega
      · rw [hbit] at h; cases h
    rw [State.offerWrite, if_neg fun h => hnot h.2]

/-! ## Answers to the checker's own requests (R63, R93, R106, R118) -/

/-- Settles O33. -/
theorem ownAndUnmatchedAnswersTaken : Obligations.OwnAndUnmatchedAnswersTaken := by
  refine ⟨fun s m d hlog => ?_, fun s o m i q rest d hlog howner => ?_⟩
  · have hexec : exec (.memoryAnswer m d) s = .next s.discardAnswer := by
      show Host.Outcome.next (s.memoryAnswer m d) = _
      rw [State.memoryAnswer, hlog]
    rw [hexec]
    refine ⟨fun h => ?_, fun h => ?_⟩
    · exact congrArg Host.Outcome.next (if_neg (by simp [h]))
    · exact congrArg Host.Outcome.next (if_pos h)
  · rw [exec_memoryAnswer_of_log hlog, exec_memoryAnswer_of_log hlog]
    rcases howner with ⟨⟨g, rfl⟩, rfl⟩ | ⟨rfl, rfl⟩
    · exact ⟨rfl, rfl⟩
    · exact ⟨rfl, rfl⟩

/-! ## Answers to a posting's requests (R128, R135, R136) -/

theorem State.reportLoss_none (h : s.records ≠ [] ∨ s.lost = 0) : s.reportLoss = s := by
  refine if_neg ?_
  rcases h with h | h <;> simp [h]

/-- A posting that empties the queue reports the records lost (R128). -/
theorem State.completePosting_reports {x : Record} (hrecords : s.records = [x]) (hlost : s.lost ≠ 0)
    (hring : s.ringState = .running) : s.completePosting = { s with
      records := [{ detail := .loss, sequence := s.sequence, subject := .nothing, address := 0
                    value := BitVec.ofNat 32 s.lost, timestamp := s.tickCounter }]
      sequence := s.sequence + 1, lost := 0, head := (s.head + 1) % s.ringSlots, posting := .idle
      causes := s.causes ||| causeRecord } := by
  have htail : s.records.tail = [] := by rw [hrecords]; rfl
  unfold State.completePosting State.reportLoss
  rw [htail, if_pos (by simp [State.setCause, hlost]),
    State.createRecord_joins (by rw [State.setCause]; simp [hring]) (by simp [State.setCause, Config.recordPlaces])]
  rfl

/-- Settles O34. -/
theorem postingAnswersDriveTheRing : Obligations.PostingAnswersDriveTheRing := by
  intro s e rest d hlog
  have hexec := fun m => exec_memoryAnswer_of_log hlog m d
  refine ⟨fun k hk => ?_, fun k w hk => ?_, fun hk => ?_⟩
  · have hread : { s with issueLog := rest }.dispatch e .ok d = { s with issueLog := rest }.answerRingRead .ok d := by
      rw [State.dispatch, hk]
    rw [hexec, hread]
    refine ⟨fun h => ?_, fun h => ?_⟩
    · exact congrArg Host.Outcome.next (if_neg (by rw [h]; nofun))
    · exact congrArg Host.Outcome.next (if_pos h)
  · have hwrite : { s with issueLog := rest }.dispatch e .ok d = { s with issueLog := rest }.answerRingWrite w .ok := by
      rw [State.dispatch, hk]
    rw [hexec, hwrite]
    refine ⟨?_, ?_, ?_, ?_, ?_⟩
    · rintro rfl; rfl
    · rintro rfl; rfl
    · rintro rfl; rfl
    · rintro rfl hmore
      refine congrArg Host.Outcome.next (State.reportLoss_none ?_)
      rcases hmore with hlost | hlen
      · exact .inr hlost
      · refine .inl fun hnil => ?_
        have htail : s.records.tail = [] := hnil
        have hlength := congrArg List.length htail
        rw [List.length_tail, List.length_nil] at hlength
        omega
    · rintro rfl hlost hlen hring
      obtain ⟨x, hx⟩ := List.length_eq_one_iff.mp hlen
      exact congrArg Host.Outcome.next (State.completePosting_reports (s := { s with issueLog := rest }) hx hlost hring)
  · rw [hexec]
    rcases hk with ⟨k, hk⟩ | ⟨k, w, hk⟩
    · rw [State.dispatch, hk]; rfl
    · rw [State.dispatch, hk]; rfl

end Sys2Proof.Machine
end

section
/-! SUPPORT. The commands of one entry, of a group, of the ring and of the alerts; and the creation of a record
(R9, R15, R20, R21, R58, R59, R108, R125, R131, R143 to R147, R166). -/

namespace Sys2Proof.Machine

variable {s t : State} {c : Instr} {code : Byte} {payload : List Byte} {i : Fin 48} {g : Fin 8} {b : Byte}

/-! ## Records (R125, R126, R131) -/

/-- Settles O38, by the three cases of a record's creation. -/
theorem recordCreatedOrCountedLost : Obligations.RecordCreatedOrCountedLost := fun _ d x a v =>
  ⟨fun hoff => State.createRecord_off hoff d x a v, fun hon hroom => State.createRecord_joins hon hroom d x a v,
    fun hon hfull => State.createRecord_discards hon hfull d x a v⟩

/-! ## Delivered commands -/

/-- A delivered command leaves what its act leaves and holds what its act answers. -/
theorem exec_answered {x : Response} (hc : managementCommand c = some (code, payload)) (hbit : enableBitFits c)
    (hd : s.delivers code payload = true) (hact : managementAct c s = (t, x)) : exec c s = .next (t.respond x) := by
  rw [exec_delivered hc hbit hd, hact]

/-! ## Indexes and group numbers (R1, R49) -/

theorem entryOf_of_lt (h : b.toNat = i.val) : entryOf b = some i := by
  simp [entryOf, h]

theorem entryOf_ofNat (i : Fin 48) : entryOf (BitVec.ofNat 8 i.val) = some i :=
  entryOf_of_lt (by rw [BitVec.toNat_ofNat]; omega)

theorem entryOf_none (h : 48 ≤ b.toNat) : entryOf b = none := dif_neg (by omega)

theorem groupOf_none {n : Nat} (h : n = 0 ∨ 8 < n) : groupOf n = none := dif_neg (by omega)

theorem groupOf_of_eq {n : Nat} (h : n = g.val + 1) : groupOf n = some g := h ▸ groupOf_groupNumber g

/-! ## The commands of one entry (R9, R15, R20 to R22) -/

section
variable {act : Fin 48 → Entry → State × Response}

theorem onOccupied_unindexed (h : entryOf b = none) : onOccupied b s act = (s, Response.refusal .badArg) := by
  simp [onOccupied, h]

theorem onOccupied_vacant (hi : entryOf b = some i) (h : (s.entry i).state = .vacant) :
    onOccupied b s act = (s, Response.refusal .state) := by
  simp [onOccupied, hi, Entry.occupied, h]

theorem onOccupied_occupied (hi : entryOf b = some i) (h : (s.entry i).state ≠ .vacant) :
    onOccupied b s act = act i (s.entry i) := by
  simp [onOccupied, hi, Entry.occupied, h]

end

/-- The bits of CLEAR_STICKY's flags that name no flag (R9). -/
theorem flags_unnamed_iff (f : Byte) : (f.getLsbD 6 || f.getLsbD 7) = true ↔ 64 ≤ f.toNat := by
  simp only [Bool.or_eq_true, BitVec.getLsbD, Nat.testBit_eq_decide_div_mod_eq, decide_eq_true_eq]
  omega

theorem clearStickyAct_named {f : Byte} (h : f.toNat < 64) : clearStickyAct b f s = onOccupied b s fun i e =>
    (s.setEntry i { e with sticky := e.sticky &&& ~~~(f.setWidth 6) }, Response.okEmpty) :=
  if_neg (by rw [flags_unnamed_iff]; omega)

theorem clearStickyAct_unnamed {f : Byte} (h : 64 ≤ f.toNat) : clearStickyAct b f s = (s, Response.refusal .badArg) :=
  if_pos ((flags_unnamed_iff f).mpr h)

theorem Entry.release_eq (e : Entry) (m : Mode) : e.release m = { e with
    state := .ready, violations := 0, mark := none, remaining := if m = .bypass then none else e.period } := by
  unfold Entry.release Entry.freshDeadline
  split <;> rfl

theorem releaseEntryAct_latched (hi : entryOf b = some i) (h : (s.entry i).state = .latched) :
    releaseEntryAct b s = (s.setEntry i ((s.entry i).release s.mode), Response.okEmpty) := by
  simp [releaseEntryAct, hi, h]

theorem releaseEntryAct_refused (hi : entryOf b = some i) (h : (s.entry i).state ≠ .latched) :
    releaseEntryAct b s = (s, Response.refusal .state) := by
  simp [releaseEntryAct, hi, h]

/-- Settles O47: each command's act is followed on an occupied and on a VACANT entry. -/
theorem entryCommandsActOnTheirEntry : Obligations.EntryCommandsActOnTheirEntry := by
  refine ⟨fun s i j e => ⟨?_, rfl⟩, ?_⟩
  · by_cases hij : j = i
    · rw [if_pos hij, hij, s.entry_setEntry_self i e]
    · rw [if_neg hij, State.entry_setEntry_ne _ _ _ _ (Ne.symm hij)]
  rintro s i b rfl
  have hi := entryOf_ofNat i
  refine ⟨fun hd => ⟨fun hocc hfree => ?_, fun hocc hgroup => ?_, fun hvac => ?_⟩,
    fun v hd => ⟨fun hocc htype => ?_, fun hocc htype => ?_, fun hvac => ?_⟩,
    fun hd => ⟨fun hocc => ?_, fun hvac => ?_⟩,
    fun f hd => ⟨fun hf hocc => ?_, fun hf hvac => ?_, fun hf => ?_⟩,
    fun hd => ⟨fun hlatched => ?_, fun hlatched => ?_⟩⟩
  all_goals
    refine exec_answered rfl ⟨nofun, nofun⟩ hd ?_
    dsimp only [managementAct, retireEntryAct, preloadReferenceAct, forgetReferenceAct]
  · rw [onOccupied_occupied hi hocc]
    exact if_neg (by rw [hfree]; nofun)
  · rw [onOccupied_occupied hi hocc]
    exact if_pos hgroup
  · exact onOccupied_vacant hi hvac
  · rw [onOccupied_occupied hi hocc]
    exact if_pos htype
  · rw [onOccupied_occupied hi hocc]
    exact if_neg (by rw [htype]; nofun)
  · exact onOccupied_vacant hi hvac
  · exact onOccupied_occupied hi hocc
  · exact onOccupied_vacant hi hvac
  · exact (clearStickyAct_named hf).trans (onOccupied_occupied hi hocc)
  · exact (clearStickyAct_named hf).trans (onOccupied_vacant hi hvac)
  · exact clearStickyAct_unnamed hf
  · rw [← Entry.release_eq]
    exact releaseEntryAct_latched hi hlatched
  · exact releaseEntryAct_refused hi hlatched

/-! ## CONFIG_GROUP (R55, R58, R59) -/

section
variable {p : GroupPayload}

theorem configTarget_of_number (hp : p.group.toNat = g.val + 1) (htimeout : p.timeout ≠ 0) : configTarget p = some g :=
  (if_neg htimeout).trans (groupOf_of_eq hp)

theorem configTarget_refused (h : p.group.toNat = 0 ∨ 8 < p.group.toNat ∨ p.timeout = 0) : configTarget p = none := by
  unfold configTarget
  split
  · rfl
  · next htimeout => exact groupOf_none (h.imp_right fun hlarge => hlarge.resolve_right htimeout)

/-- The two rows of CONFIG_GROUP fit their enable bit. -/
theorem enableBitFits_configGroupEnable (h : p.flags.getLsbD 1 = true) : enableBitFits (.configGroupEnable p) :=
  ⟨by rintro _ ⟨rfl⟩; exact h, nofun⟩

theorem enableBitFits_configGroupDisable (h : p.flags.getLsbD 1 = false) : enableBitFits (.configGroupDisable p) :=
  ⟨nofun, by rintro _ ⟨rfl⟩; exact h⟩

theorem configuredGroup_of_bit {x : Group} {on : Bool} (h : p.flags.getLsbD 1 = on) : configuredGroup p x =
    { x with enabled := on, timeout := p.timeout.toNat, reportCommit := p.flags.getLsbD 0 } := by
  rw [configuredGroup, groupEnable, h]

theorem configGroupEnableAct_of_size (hp : configTarget p = some g) (h : 2 ≤ (s.members g).length)
    (h' : (s.members g).length ≤ 8) :
    configGroupEnableAct p s = (s.setGroup g (configuredGroup p (s.group g)), Response.okEmpty) := by
  simp only [configGroupEnableAct, hp]
  exact if_neg (by omega)

theorem configGroupEnableAct_refused (hp : configTarget p = some g)
    (h : (s.members g).length < 2 ∨ 8 < (s.members g).length) :
    configGroupEnableAct p s = (s, Response.refusal .badArg) := by
  simp only [configGroupEnableAct, hp]
  exact if_pos h

theorem configGroupDisableAct_idle (hp : configTarget p = some g) (h : (s.group g).state = .idle) :
    configGroupDisableAct p s = (s.setGroup g (configuredGroup p (s.group g)), Response.okEmpty) := by
  simp [configGroupDisableAct, hp, State.endRound, h]

theorem configGroupDisableAct_opened (hp : configTarget p = some g) (h : (s.group g).state = .opened) :
    configGroupDisableAct p s = ((s.abandon g .disable).setGroup g
      (configuredGroup p ((s.abandon g .disable).group g)), Response.okEmpty) := by
  simp [configGroupDisableAct, hp, State.endRound, h]

theorem configGroupDisableAct_busy (hp : configTarget p = some g) (h : (s.group g).state = .commitWait) :
    configGroupDisableAct p s = (s, Response.refusal .busy) := by
  simp [configGroupDisableAct, hp, h]

theorem State.setGroup_setGroup (s : State) (g : Fin 8) (x y : Group) : (s.setGroup g x).setGroup g y = s.setGroup g y := by
  simp [State.setGroup, Vector.set_set]

theorem stagedValue_clearStaged (s : State) (g : Fin 8) (i : Fin 48) :
    (s.clearStaged g).stagedValue i = if s.isMember g i then none else s.stagedValue i := by
  simp [State.clearStaged, State.stagedValue]

/-- Settles O48: CONFIG_GROUP by its enable bit and the group's size and state. -/
theorem configGroupEnablesAndDisables : Obligations.ConfigGroupEnablesAndDisables := by
  refine ⟨fun s g h x i => ⟨?_, rfl, stagedValue_clearStaged s g i, rfl⟩, fun s p hd hbad => ⟨fun hbit => ?_, fun hbit => ?_⟩,
    fun s b hd hbad => ?_,
    fun s p g hp htimeout hd => ⟨fun hbit => ⟨fun hlow hhigh => ?_, fun hsize => ?_⟩,
      fun hbit => ⟨fun hidle => ?_, fun hopen => ?_, fun hwait => ?_⟩⟩⟩
  · by_cases hgh : h = g
    · rw [if_pos hgh, hgh, s.group_setGroup_self g x]
    · rw [if_neg hgh, State.group_setGroup_ne _ _ _ _ (Ne.symm hgh)]
  · refine exec_answered rfl (enableBitFits_configGroupEnable hbit) hd ?_
    simp only [managementAct, configGroupEnableAct, configTarget_refused hbad]
  · refine exec_answered rfl (enableBitFits_configGroupDisable hbit) hd ?_
    simp only [managementAct, configGroupDisableAct, configTarget_refused hbad]
  · refine exec_answered rfl ⟨nofun, nofun⟩ hd ?_
    simp only [managementAct, readGroupAct, groupOf_none hbad]
  all_goals have htarget := configTarget_of_number hp htimeout
  · rw [← configuredGroup_of_bit hbit]
    exact exec_answered rfl (enableBitFits_configGroupEnable hbit) hd (configGroupEnableAct_of_size htarget hlow hhigh)
  · exact exec_answered rfl (enableBitFits_configGroupEnable hbit) hd (configGroupEnableAct_refused htarget hsize)
  · rw [← configuredGroup_of_bit hbit]
    exact exec_answered rfl (enableBitFits_configGroupDisable hbit) hd (configGroupDisableAct_idle htarget hidle)
  · refine (exec_answered rfl (enableBitFits_configGroupDisable hbit) hd (configGroupDisableAct_opened htarget hopen)).trans ?_
    rw [configuredGroup_of_bit hbit, State.group_abandon, if_pos rfl]
    exact congrArg (fun u : State => Host.Outcome.next ((u.setCause causeGroup).respond Response.okEmpty))
      (State.setGroup_setGroup _ g _ _)
  · exact exec_answered rfl (enableBitFits_configGroupDisable hbit) hd (configGroupDisableAct_busy htarget hwait)

end

/-! ## The ring (R143, R144) -/

theorem ringArgsOk_iff {base : Word} {n : Half} : ringArgsOk base n = true ↔
    base.toNat % 16 = 0 ∧ 8 ≤ n.toNat ∧ n.toNat ≤ 4096 ∧ base.toNat + 16 * n.toNat ≤ 2 ^ 32 := by
  simp only [ringArgsOk, Bool.and_eq_true, decide_eq_true_eq]
  omega

theorem configRingAct_stopped {base : Word} {n : Half} (h : s.ringState = .off ∨ s.ringState = .stopped) :
    configRingAct base n s = if ringArgsOk base n = false then (s, Response.refusal .badArg)
      else if s.entryMeets base.toNat (16 * n.toNat) then (s, Response.refusal .conflict)
      else (s.startRing base n, Response.okEmpty) :=
  if_neg (by rcases h with h | h <;> rw [h] <;> decide)

theorem ringOffAct_idle (h : s.posting = .idle) :
    ringOffAct s = ({ s with ringState := .off, records := [], lost := 0 }, Response.okEmpty) := by
  simp [ringOffAct, h]

theorem ringOffAct_busy (h : s.posting ≠ .idle) : ringOffAct s = (s, Response.refusal .busy) := by
  unfold ringOffAct
  split
  · rfl
  · rfl
  · rfl
  · next hidle => exact absurd hidle h

/-- Settles O49: CONFIG_RING by the ring state, its arguments and its region; RING_OFF by the posting. -/
theorem ringConfiguredAndTurnedOff : Obligations.RingConfiguredAndTurnedOff := by
  refine fun s => ⟨fun base n hd => ⟨fun hring => ?_, fun hring => ⟨fun hbad => ?_,
      fun halign hlow hhigh hend => ⟨fun hmeets => ?_, fun hmeets => ?_⟩⟩⟩,
    fun hd => ⟨fun hidle => exec_answered rfl ⟨nofun, nofun⟩ hd (ringOffAct_idle hidle),
      fun hbusy => exec_answered rfl ⟨nofun, nofun⟩ hd (ringOffAct_busy hbusy)⟩⟩
  · exact exec_answered rfl ⟨nofun, nofun⟩ hd (if_pos hring)
  · refine exec_answered rfl ⟨nofun, nofun⟩ hd ((configRingAct_stopped hring).trans (if_pos ?_))
    rw [Bool.eq_false_iff, Ne, ringArgsOk_iff]
    omega
  all_goals
    have hargs : ¬ ringArgsOk base n = false := by
      rw [Bool.not_eq_false]
      exact ringArgsOk_iff.mpr ⟨halign, hlow, hhigh, hend⟩
    refine exec_answered rfl ⟨nofun, nofun⟩ hd ?_
    refine (configRingAct_stopped hring).trans ((if_neg hargs).trans ?_)
  · exact if_pos (State.entryMeets_iff.mpr hmeets)
  · exact if_neg fun h => hmeets (State.entryMeets_iff.mp h)

/-! ## The tick length, the mask and the causes (R108, R145 to R147) -/

theorem byte_and_ne_zero_iff {x y : Byte} : x &&& y ≠ 0 ↔ ∃ k, k < 8 ∧ x.getLsbD k = true ∧ y.getLsbD k = true := by
  constructor
  · intro h
    refine Classical.byContradiction fun hnone => ?_
    refine h (BitVec.eq_of_getLsbD_eq fun k hk => ?_)
    rw [BitVec.getLsbD_and]
    refine Eq.trans ?_ BitVec.getLsbD_zero.symm
    refine Classical.byContradiction fun hbits => ?_
    simp only [Bool.and_eq_false_iff, not_or, Bool.not_eq_false] at hbits
    exact hnone ⟨k, hk, hbits⟩
  · rintro ⟨k, -, hx, hy⟩ h
    have hk := congrArg (BitVec.getLsbD · k) h
    simp only [BitVec.getLsbD_and, hx, hy] at hk
    simp at hk

theorem State.inReset_of_delivers (h : s.delivers code payload = true) : s.inReset = false := by
  simp only [State.delivers, Bool.and_eq_true, Bool.not_eq_true'] at h
  exact h.1

theorem State.alertActive_iff : s.alertActive = true ↔
    s.inReset = false ∧ ∃ k, k < 8 ∧ s.causes.getLsbD k = true ∧ s.mask.getLsbD k = true := by
  rw [State.alertActive, Bool.and_eq_true, Bool.not_eq_true', decide_eq_true_eq, byte_and_ne_zero_iff]

theorem half_eq_zero_iff {n : Half} : n = 0 ↔ n.toNat = 0 := by
  rw [← BitVec.toNat_inj]
  rfl

theorem getLsbD_and_not (x y : Byte) {k : Nat} (hk : k < 8) : (x &&& ~~~y).getLsbD k = (x.getLsbD k && !y.getLsbD k) := by
  simp [hk]

/-- Settles O51: each command's state is written out, and the alert output follows from its bits. -/
theorem tickMaskAndCausesSet : Obligations.TickMaskAndCausesSet := by
  intro s
  have hset (b : Byte) (hd : s.delivers 0x60 [b] = true) :
      exec (.setAlertMask b) s = .next ({ s with mask := b }.respond Response.okEmpty) :=
    exec_answered rfl ⟨nofun, nofun⟩ hd rfl
  have hack (b : Byte) (hd : s.delivers 0x61 [b] = true) :
      exec (.ackAlerts b) s = .next ({ s with causes := s.causes &&& ~~~b }.respond Response.okEmpty) :=
    exec_answered rfl ⟨nofun, nofun⟩ hd rfl
  refine ⟨fun _ => rfl, fun n hd => ⟨fun hlow hhigh => ?_, fun hbad => ?_⟩, hset,
    fun b hd => ⟨_, hack b hd, rfl, fun k hk => getLsbD_and_not _ _ hk⟩, State.alertActive_iff,
    fun b hd => ⟨_, hset b hd, ?_⟩, fun b hd => ⟨_, hack b hd, ?_⟩⟩
  · refine exec_answered rfl ⟨nofun, nofun⟩ hd (if_neg ?_)
    rw [half_eq_zero_iff]
    omega
  · refine exec_answered rfl ⟨nofun, nofun⟩ hd (if_pos ?_)
    rw [half_eq_zero_iff]
    omega
  all_goals
    have hreset : s.inReset = false := State.inReset_of_delivers hd
    rw [State.alertActive_iff]
  · exact and_iff_right hreset
  · refine (and_iff_right hreset).trans (exists_congr fun k => and_congr_right fun hk => ?_)
    show (s.causes &&& ~~~b).getLsbD k = true ∧ _ ↔ _
    rw [getLsbD_and_not _ _ hk, Bool.and_eq_true, Bool.not_eq_true', and_assoc]
    rfl

end Sys2Proof.Machine
end

section
/-! SUPPORT. LOAD_ENTRY, TUNE_ENTRY and SET_FRESH (R18, R19, R121, R166, R170, R171). -/

namespace Sys2Proof.Machine

variable {s t : State} {i : Fin 48} {a : Action} {e : Entry} {b : Byte}

/-! ## The operands of the payloads -/

theorem Action.ofCode_of_code (h : b.toNat = a.code) : Action.ofCode b = some a := by
  unfold Action.ofCode
  rw [h]
  cases a <;> rfl

theorem Action.ofCode_none (h : 4 ≤ b.toNat) : Action.ofCode b = none := by
  unfold Action.ofCode
  split
  case h_5 => rfl
  all_goals omega

theorem Width.bytes_ofCode (h : b.toNat ≤ 2) : (Width.ofCode (b.setWidth 2)).bytes = 2 ^ b.toNat := by
  have hcode : b = 0#8 ∨ b = 1#8 ∨ b = 2#8 := by
    simp only [← BitVec.toNat_inj, BitVec.toNat_ofNat]
    omega
  rcases hcode with rfl | rfl | rfl <;> rfl

/-- The rules and the fallback value that TUNE_ENTRY refuses of an occupied entry (R19). -/
def Entry.rulesRefused (e : Entry) : Prop :=
  (∃ v, (e.low = some v ∨ e.high = some v) ∧ inType e.width e.signed v = false) ∨ e.width.span < e.step ∨
    ∃ v, e.fallback = some v ∧ ((∃ l, e.low = some l ∧ v < l) ∨ ∃ h, e.high = some h ∧ h < v)

theorem Entry.rulesRefused.not_ok (h : e.rulesRefused) : ¬ (rulesInType e && fallbackFits e) = true := by
  rw [Bool.and_eq_true, rulesInType_iff, fallbackFits_iff]
  rintro ⟨⟨hlow, hhigh, hstep⟩, hfits⟩
  rcases h with ⟨v, hv, htype⟩ | hspan | ⟨v, hv, hout⟩
  · have hin := hv.elim (hlow v) (hhigh v)
    rw [htype] at hin
    cases hin
  · omega
  · obtain ⟨-, habove, hbelow⟩ := hfits v hv
    rcases hout with ⟨l, hl, hlt⟩ | ⟨h, hh, hlt⟩
    · have := habove l hl; omega
    · have := hbelow h hh; omega

/-! ## TUNE_ENTRY (R19, R171) -/

section
variable {p : TunePayload}

theorem tuneEntryAct_unnamed (h : entryOf p.index = none ∨ Action.ofCode p.action = none) :
    tuneEntryAct p s = (s, Response.refusal .badArg) := by
  unfold tuneEntryAct
  split
  · next hi ha => rw [hi, ha] at h; rcases h with h | h <;> cases h
  · rfl

theorem tuneEntryAct_unordered (hi : entryOf p.index = some i) (ha : Action.ofCode p.action = some a)
    (h : limitsOrdered (tunedEntry p a (s.entry i)).low (tunedEntry p a (s.entry i)).high = false) :
    tuneEntryAct p s = (s, Response.refusal .badArg) := by
  simp only [tuneEntryAct, hi, ha]
  exact if_pos h

/-- With the operands and the limits' order taken, the entry decides. -/
theorem tuneEntryAct_ordered (hi : entryOf p.index = some i) (ha : Action.ofCode p.action = some a)
    (h : limitsOrdered (tunedEntry p a (s.entry i)).low (tunedEntry p a (s.entry i)).high = true) :
    tuneEntryAct p s = if (s.entry i).occupied = false then (s, Response.refusal .state)
      else if rulesInType (tunedEntry p a (s.entry i)) && fallbackFits (tunedEntry p a (s.entry i)) then
        (s.setEntry i (tunedEntry p a (s.entry i)), Response.okEmpty)
      else (s, Response.refusal .badArg) := by
  simp only [tuneEntryAct, hi, ha]
  exact if_neg (by rw [h]; nofun)

theorem Entry.occupied_eq_false : e.occupied = false ↔ e.state = .vacant := by
  simp [Entry.occupied]

end

/-! ## SET_FRESH (R121, R171) -/

section
variable {p : FreshPayload}

theorem freshArgsOk_iff : freshArgsOk p = true ↔ ¬ (p.flags.getLsbD 5 = true ∧ p.period = 0) ∧
    (p.flags.getLsbD 6 = true → p.flags.getLsbD 5 = true) := by
  rw [freshArgsOk]
  cases p.flags.getLsbD 5 <;> cases p.flags.getLsbD 6 <;> simp

theorem setFreshAct_refused (h : entryOf p.index = none ∨ ¬ freshArgsOk p = true) :
    setFreshAct p s = (s, Response.refusal .badArg) := by
  unfold setFreshAct
  split
  · rfl
  · next hi =>
    exact if_pos (Bool.eq_false_iff.mpr (h.resolve_left (by rw [hi]; nofun)))

/-- With the arguments taken, the entry decides. -/
theorem setFreshAct_named (hi : entryOf p.index = some i) (hargs : freshArgsOk p = true) :
    setFreshAct p s = if (s.entry i).occupied = false then (s, Response.refusal .state)
      else if (s.entry i).group.isSome then (s, Response.refusal .conflict)
      else if fallbackFits (refreshedEntry p (s.entry i)) then
        (s.setEntry i ((refreshedEntry p (s.entry i)).refreshed s.mode), Response.okEmpty)
      else (s, Response.refusal .badArg) := by
  simp only [setFreshAct, hi]
  exact if_neg (by rw [hargs]; nofun)

/-- The table of R121. -/
theorem Entry.refreshed_eq (e : Entry) (m : Mode) : e.refreshed m = { e with
    remaining := if e.state = .ready ∧ m ≠ .bypass then e.period else none
    mark := if e.state ≠ .ready ∧ e.fallback.isSome = true then e.mark else none } := by
  unfold Entry.refreshed Entry.freshDeadline Entry.startDeadline
  by_cases hready : e.state = .ready <;> by_cases hmode : m = .bypass <;> simp [hready, hmode]

end

/-- Settles O46: the refusals of both commands in their order, and the entry each of them writes. -/
theorem tuneAndFreshReplaceTheirFields : Obligations.TuneAndFreshReplaceTheirFields := by
  refine ⟨?tune, ?tuneArgs, ?freshArgs, ?fresh⟩
  case tune =>
    rintro s p i a e hd hindex haction rfl hordered
    have hact := tuneEntryAct_ordered (s := s) (entryOf_of_lt hindex) (Action.ofCode_of_code haction)
      (limitsOrdered_iff.mpr hordered)
    refine ⟨fun hvac => ?_, fun hocc htype hstep hfits => ?_, fun hocc hbad => ?_⟩
    all_goals refine exec_answered rfl ⟨nofun, nofun⟩ hd (hact.trans ?_)
    · exact if_pos (Entry.occupied_eq_false.mpr hvac)
    all_goals refine (if_neg fun h => hocc (Entry.occupied_eq_false.mp h)).trans ?_
    · refine if_pos ?_
      rw [Bool.and_eq_true]
      exact ⟨rulesInType_iff.mpr ⟨fun l hl => htype l (.inl hl), fun h hh => htype h (.inr hh), hstep⟩,
        fallbackFits_iff.mpr hfits⟩
    · exact if_neg (Entry.rulesRefused.not_ok hbad)
  case tuneArgs =>
    rintro s p hd hbad
    refine exec_answered rfl ⟨nofun, nofun⟩ hd ?_
    cases ha : Action.ofCode p.action with
    | none => exact tuneEntryAct_unnamed (.inr ha)
    | some a =>
      rcases hbad with hindex | haction | ⟨i, hindex, hlow, hhigh, hlt⟩
      · exact tuneEntryAct_unnamed (.inl (entryOf_none hindex))
      · rw [Action.ofCode_none haction] at ha; cases ha
      · refine tuneEntryAct_unordered (entryOf_of_lt hindex) ha ?_
        simp only [tunedEntry, hlow, hhigh, present, limitsOrdered]
        exact decide_eq_false (by omega)
  case freshArgs =>
    rintro s p hd hbad
    refine exec_answered rfl ⟨nofun, nofun⟩ hd (setFreshAct_refused (hbad.imp entryOf_none fun h hok => ?_))
    obtain ⟨hperiod, hfallback⟩ := freshArgsOk_iff.mp hok
    rcases h with h | ⟨h6, h5⟩
    · exact hperiod h
    · rw [hfallback h6] at h5; cases h5
  case fresh =>
    rintro s p i per fb hd hindex rfl rfl hper hfb
    have hargs : freshArgsOk p = true := by
      rw [freshArgsOk_iff]
      refine ⟨fun ⟨h5, hzero⟩ => hper ?_, fun h6 => ?_⟩
      · rw [if_pos h5, hzero]; rfl
      · refine Classical.byContradiction fun h5 => ?_
        rw [if_pos h6, if_neg h5] at hfb
        cases hfb rfl
    have hact := setFreshAct_named (s := s) (entryOf_of_lt hindex) hargs
    refine ⟨fun hvac => ?_, fun hocc hgroup => ?_, fun hocc hgroup hfits => ?_, fun hocc hgroup hbad => ?_⟩
    all_goals refine exec_answered rfl ⟨nofun, nofun⟩ hd (hact.trans ?_)
    · exact if_pos (Entry.occupied_eq_false.mpr hvac)
    all_goals refine (if_neg fun h => hocc (Entry.occupied_eq_false.mp h)).trans ?_
    · exact if_pos hgroup
    · refine ((if_neg (by rw [hgroup]; nofun)).trans (if_pos (fallbackFits_iff.mpr hfits))).trans ?_
      rw [Entry.refreshed_eq]
      rfl
    · refine (if_neg (by rw [hgroup]; nofun)).trans (if_neg fun hok => ?_)
      obtain ⟨v, hv, hout⟩ := hbad
      obtain ⟨htype, hlow, hhigh⟩ := fallbackFits_iff.mp hok v hv
      rcases hout with h | ⟨l, hl, hlt⟩ | ⟨h, hh, hlt⟩
      · rw [show inType (s.entry i).width (s.entry i).signed v = true from htype] at h; cases h
      · have := hlow l hl; omega
      · have := hhigh h hh; omega

/-! ## LOAD_ENTRY (R18, R170) -/

section
variable {p : LoadPayload}

theorem loadEntryAct_unnamed (h : entryOf p.index = none ∨ Action.ofCode p.action = none) :
    loadEntryAct p s = (s, Response.refusal .badArg) := by
  unfold loadEntryAct
  split
  · next hi ha => rw [hi, ha] at h; rcases h with h | h <;> cases h
  · rfl

theorem loadEntryAct_named (hi : entryOf p.index = some i) (ha : Action.ofCode p.action = some a) :
    loadEntryAct p s = if loadArgsOk p (loadedEntry p a) then
        if s.loadFits i (loadedEntry p a) then (s.setEntry i ((loadedEntry p a).freshDeadline s.mode), Response.okEmpty)
        else (s, Response.refusal .conflict)
      else (s, Response.refusal .badArg) := by
  simp only [loadEntryAct, hi, ha]

theorem loadArgsOk_iff : loadArgsOk p e = true ↔ p.wcode.toNat ≤ 2 ∧ p.address.toNat % e.width.bytes = 0 ∧
    rulesInType e = true ∧ limitsOrdered e.low e.high = true ∧ (p.flags.getLsbD 4 = true → e.group.isSome = true) ∧
    e.period ≠ some 0 ∧ ¬ (p.flags.getLsbD 4 = true ∧ p.flags.getLsbD 5 = true) ∧
    (e.fallback.isSome = true → e.period.isSome = true) ∧ fallbackFits e = true := by
  simp only [loadArgsOk, Bool.and_eq_true, decide_eq_true_eq, Bool.or_eq_true, Bool.not_eq_true', and_assoc,
    ← Bool.not_eq_true, Classical.or_iff_not_imp_left, Classical.not_not]

theorem State.loadFits_iff : s.loadFits i e = true ↔ (s.entry i).state = .vacant ∧
    ¬ s.overlapsEntry e.address.toNat e.width.bytes ∧ ¬ s.overlapsRing e.address.toNat e.width.bytes ∧
    ∀ g, e.group = some g → (s.group g).enabled = false := by
  simp only [State.loadFits, Bool.and_eq_true, Bool.not_eq_true', Entry.occupied_eq_false, Option.isNone_iff_eq_none,
    State.enabledGroup_eq_none, ← State.entryMeets_iff, ← State.ringMeets_iff, Bool.not_eq_true, and_assoc]

theorem groupOf_eq_some {n : Nat} {g : Fin 8} : groupOf n = some g ↔ n = g.val + 1 := by
  refine ⟨fun h => ?_, groupOf_of_eq⟩
  unfold groupOf at h
  split at h
  · simp only [Option.some.injEq, ← Fin.val_inj] at h
    omega
  · cases h

/-- The group that a LOAD_ENTRY payload names, from its characterisation. -/
theorem loadedEntry_group {grp : Option (Fin 8)}
    (h : ∀ g, grp = some g ↔ p.flags.getLsbD 4 = true ∧ p.group.toNat = g.val + 1) :
    grp = (loadedEntry p a).group := by
  refine Option.ext fun g => (h g).trans ?_
  show _ ↔ (if p.flags.getLsbD 4 then groupOf p.group.toNat else none) = some g
  by_cases h4 : p.flags.getLsbD 4 = true
  · rw [if_pos h4, groupOf_eq_some, and_iff_right h4]
  · rw [if_neg h4]
    exact ⟨fun h => absurd h.1 h4, nofun⟩

theorem Entry.freshDeadline_eq (e : Entry) (m : Mode) :
    e.freshDeadline m = { e with remaining := if m = .bypass then none else e.period } := by
  unfold Entry.freshDeadline Entry.startDeadline
  split <;> rfl

end

/-- The arguments that R18 refuses with BADARG, of a payload whose index and action are taken. -/
def loadRefused (p : LoadPayload) (e : Entry) : Prop :=
  3 ≤ p.wcode.toNat ∨ p.address.toNat % 2 ^ p.wcode.toNat ≠ 0 ∨
    (∃ v, (e.low = some v ∨ e.high = some v ∨ e.fallback = some v) ∧ inType e.width e.signed v = false) ∨
    e.width.span < e.step ∨ (∃ l h, e.low = some l ∧ e.high = some h ∧ h < l) ∨
    (p.flags.getLsbD 4 = true ∧ (p.group.toNat = 0 ∨ 8 < p.group.toNat)) ∨
    (p.flags.getLsbD 5 = true ∧ p.period = 0) ∨ (p.flags.getLsbD 4 = true ∧ p.flags.getLsbD 5 = true) ∨
    (p.flags.getLsbD 6 = true ∧ p.flags.getLsbD 5 = false) ∨
    (∃ v, e.fallback = some v ∧ ((∃ l, e.low = some l ∧ v < l) ∨ ∃ h, e.high = some h ∧ h < v))

theorem not_loadArgsOk {p : LoadPayload} (h : loadRefused p (loadedEntry p a)) :
    ¬ loadArgsOk p (loadedEntry p a) = true := by
  rw [loadArgsOk_iff]
  rintro ⟨hwcode, halign, hrules, hordered, hgroup, hperiod, hapart, hfallback, hfits⟩
  obtain ⟨hlow, hhigh, hstep⟩ := rulesInType_iff.mp hrules
  rw [limitsOrdered_iff] at hordered
  rw [fallbackFits_iff] at hfits
  have hbytes : (loadedEntry p a).width.bytes = 2 ^ p.wcode.toNat := Width.bytes_ofCode hwcode
  rcases h with h | h | ⟨v, hv, htype⟩ | h | ⟨l, h, hl, hh, hlt⟩ | ⟨h4, hnumber⟩ | ⟨h5, hzero⟩ | h | ⟨h6, h5⟩ |
    ⟨v, hv, hout⟩
  · omega
  · exact h (hbytes ▸ halign)
  · rcases hv with hv | hv | hv
    · rw [hlow v hv] at htype; cases htype
    · rw [hhigh v hv] at htype; cases htype
    · rw [(hfits v hv).1] at htype; cases htype
  · omega
  · have := hordered l h hl hh; omega
  · have hsome : (if p.flags.getLsbD 4 then groupOf p.group.toNat else none).isSome = true := hgroup h4
    rw [if_pos h4, groupOf_none hnumber] at hsome
    cases hsome
  · exact hperiod (present_eq_some.mpr ⟨h5, (half_eq_zero_iff.mp hzero).symm⟩)
  · exact hapart h
  · have hsome : (present (p.flags.getLsbD 5) p.period.toNat).isSome = true := hfallback (isSome_present.trans h6)
    rw [isSome_present, h5] at hsome
    cases hsome
  · obtain ⟨-, habove, hbelow⟩ := hfits v hv
    rcases hout with ⟨l, hl, hlt⟩ | ⟨h, hh, hlt⟩
    · have := habove l hl; omega
    · have := hbelow h hh; omega

/-- Settles O45: the arguments of R18 are the command's own test, and then the place decides. -/
theorem loadEntryPlacesAReadyEntry : Obligations.LoadEntryPlacesAReadyEntry := by
  refine fun s p hd => ⟨?placed, ?refused⟩
  case placed =>
    rintro i a e grp hindex haction hwcode hgrp he halign hstep htype hordered hgroup hperiod hfallback
    obtain rfl := loadedEntry_group (a := a) hgrp
    have hentry : e = (loadedEntry p a).freshDeadline s.mode := he.trans (Entry.freshDeadline_eq (loadedEntry p a) s.mode).symm
    subst he
    have hargs : loadArgsOk p (loadedEntry p a) = true := by
      refine loadArgsOk_iff.mpr ⟨hwcode, (congrArg _ (Width.bytes_ofCode hwcode)).trans halign,
        rulesInType_iff.mpr ⟨fun l hl => htype l (.inl hl), fun h hh => htype h (.inr hh), hstep⟩,
        limitsOrdered_iff.mpr hordered, fun h4 => ?_, fun hzero => ?_, fun ⟨h4, h5⟩ => ?_, fun hsome => ?_,
        fallbackFits_iff.mpr fun v hv => (hfallback v hv).2⟩
      · obtain ⟨hlow, hhigh, -⟩ := hgroup h4
        exact Option.isSome_iff_exists.mpr ⟨_, (hgrp ⟨p.group.toNat - 1, by omega⟩).mpr ⟨h4, by simp only; omega⟩⟩
      · obtain ⟨h5, hp⟩ := present_eq_some.mp hzero
        exact hperiod h5 (half_eq_zero_iff.mpr hp.symm)
      · rw [(hgroup h4).2.2] at h5; cases h5
      · obtain ⟨v, hv⟩ := Option.isSome_iff_exists.mp hsome
        exact isSome_present.trans (hfallback v hv).1
    have hact := (loadEntryAct_named (s := s) (entryOf_of_lt hindex) (Action.ofCode_of_code haction)).trans (if_pos hargs)
    refine ⟨fun hvac hentries hring hgroups => ?_, fun hconflict => ?_⟩
    · refine exec_answered rfl ⟨nofun, nofun⟩ hd (hact.trans ?_)
      rw [hentry]
      exact if_pos (State.loadFits_iff.mpr ⟨hvac, hentries, hring, hgroups⟩)
    · refine exec_answered rfl ⟨nofun, nofun⟩ hd (hact.trans (if_neg fun hfits => ?_))
      obtain ⟨hvac, hentries, hring, hgroups⟩ := State.loadFits_iff.mp hfits
      rcases hconflict with h | h | h | ⟨g, hg, hon⟩
      · exact h hvac
      · exact hentries h
      · exact hring h
      · rw [hgroups g hg] at hon; cases hon
  case refused =>
    rintro w signed low high fallback rfl rfl rfl rfl rfl hbad
    refine exec_answered rfl ⟨nofun, nofun⟩ hd ?_
    cases hi : entryOf p.index with
    | none => exact loadEntryAct_unnamed (.inl hi)
    | some i =>
      cases ha : Action.ofCode p.action with
      | none => exact loadEntryAct_unnamed (.inr ha)
      | some a =>
        refine (loadEntryAct_named hi ha).trans (if_neg ?_)
        refine not_loadArgsOk ?_
        rcases hbad with hindex | hwcode | halign | haction | hrest
        · rw [entryOf_none hindex] at hi; cases hi
        · exact .inl hwcode
        · exact .inr (.inl halign)
        · rw [Action.ofCode_none haction] at ha; cases ha
        · exact .inr (.inr hrest)

end Sys2Proof.Machine
end

section
/-! SUPPORT. The management link: the bytes of a frame, its examination at the release, and the commands that refuse
(R159 to R166, R182). -/

namespace Sys2Proof.Machine

variable {s t : State} {c : Instr} {code len : Byte} {payload rest pad : List Byte} {b : Byte}

/-! ## Bytes in and out (R159, R160, R163) -/

theorem exec_incomingByte_idle (h : s.frame = .idle) (b : Byte) : exec (.incomingByte b) s = .next s :=
  congrArg Host.Outcome.next (by simp only [State.incomingByte, h])

theorem exec_incomingByte_opened (h : s.frame = .opened) (b : Byte) : exec (.incomingByte b) s =
    .next { s with receiver := s.receiver ++ [b], outByte := some (s.held.bytes.getD s.receiver.length 0) } :=
  congrArg Host.Outcome.next (by simp only [State.incomingByte, h])

theorem exec_incomingByte_void (h : s.frame = .void) (b : Byte) :
    exec (.incomingByte b) s = .next { s with outByte := some 0 } :=
  congrArg Host.Outcome.next (by simp only [State.incomingByte, h])

theorem exec_frameNotTaken_idle (h : s.frame = .idle) : exec .frameNotTaken s = .next s :=
  congrArg Host.Outcome.next (by simp only [State.frameNotTaken, h])

theorem exec_frameNotTaken_void (h : s.frame = .void) : exec .frameNotTaken s = .next s.releaseSelect :=
  congrArg Host.Outcome.next (by simp only [State.frameNotTaken, h])

/-- Settles O39. -/
theorem frameBytesPassBothWays : Obligations.FrameBytesPassBothWays := by
  refine ⟨rfl, fun x status payload => ⟨rfl, rfl, rfl⟩, fun s b => ⟨rfl, fun h => ⟨exec_incomingByte_idle h b,
    exec_frameNotTaken_idle h⟩, fun h => exec_incomingByte_opened h b, fun h => exec_incomingByte_void h b, fun n => ?_,
    exec_frameNotTaken_void⟩⟩
  -- The empty response of the reset is 0x00 in every byte, its CRC with them.
  rw [show crc [0x00, 0x00] = 0x00 from crc_nop]
  match n with
  | 0 | 1 | 2 => rfl
  | n + 3 => rfl

/-! ## The examination of a frame (R161, R164) -/

theorem commandLength_eq_some (code : Byte) (n : Nat) : commandLength code = some n ↔ (code.toNat, n) ∈
    [(0x00, 0), (0x10, 1), (0x11, 0), (0x20, 28), (0x21, 16), (0x22, 8), (0x23, 1), (0x24, 1), (0x25, 5), (0x26, 1),
      (0x27, 2), (0x28, 1), (0x30, 4), (0x31, 1), (0x40, 6), (0x41, 0), (0x42, 0), (0x50, 2), (0x51, 0), (0x60, 1),
      (0x61, 1)] := by
  unfold commandLength
  split
  case h_22 => simp_all
  all_goals
    rename_i hcode
    simp only [hcode, List.mem_cons, Prod.mk.injEq, List.not_mem_nil, Option.some.injEq, Nat.reduceEqDiff, true_and,
      false_and, or_false, false_or]
    exact eq_comm

theorem commandLength_le {n : Nat} (h : commandLength code = some n) : n ≤ 28 := by
  have hmem := (commandLength_eq_some code n).mp h
  simp only [List.mem_cons, Prod.mk.injEq, List.not_mem_nil, or_false] at hmem
  omega

/-- The verdict on a frame whose CRC fits, by its code's length. -/
def examineCode (code : Byte) (payload : List Byte) : FrameVerdict :=
  (commandLength code).elim (.notTaken .unknown) fun required =>
    if required = payload.length then .command code payload else .notTaken .badArg

theorem examineBody_short (h : 28 < len.toNat ∨ rest.length ≤ len.toNat) :
    examineBody code len rest = .notTaken .badFrame := by
  unfold examineBody
  dsimp only
  split
  · rfl
  · next hlong =>
    have hdrop : rest.drop len.toNat = [] := List.drop_eq_nil_of_le (h.resolve_left hlong)
    rw [hdrop]

theorem examineBody_whole (hlen : len.toNat ≤ 28) (hpayload : payload.length = len.toNat) (check : Byte) (pad : List Byte) :
    examineBody code len (payload ++ check :: pad) =
      if check = crc (code :: len :: payload) then examineCode code payload else .notTaken .badFrame := by
  have hdrop : (payload ++ check :: pad).drop len.toNat = check :: pad := List.drop_left' hpayload
  have htake : (payload ++ check :: pad).take len.toNat = payload := List.take_left' hpayload
  have hmax : ¬ Config.commandPayloadMax < len.toNat := Nat.not_lt.mpr hlen
  by_cases hcheck : check = crc (code :: len :: payload)
  · cases hcode : commandLength code <;>
      simp only [examineBody, hdrop, htake, if_neg hmax, hcode, examineCode, hpayload, Option.elim, ← hcheck, ne_eq,
        not_true_eq_false, if_true, if_false]
  · simp only [examineBody, hdrop, htake, if_neg hmax, hcheck, ne_eq, not_false_eq_true, if_true, if_false]

theorem exists_payload_check {n : Nat} (h : n < rest.length) :
    ∃ payload check pad, rest = payload ++ check :: pad ∧ payload.length = n :=
  ⟨rest.take n, rest[n], rest.drop (n + 1), by rw [List.getElem_cons_drop, List.take_append_drop],
    List.length_take_of_le (Nat.le_of_lt h)⟩

theorem examineCode_eq_command {x : Byte} {q : List Byte} : examineCode code payload = .command x q ↔
    commandLength code = some payload.length ∧ x = code ∧ q = payload := by
  unfold examineCode
  cases commandLength code with
  | none => simp
  | some required =>
    simp only [Option.elim, Option.some.injEq]
    split <;> simp_all [eq_comm]

/-- The frames that R164 takes: the code, the length that it requires, the payload and the CRC, then anything. -/
theorem examineFrame_eq_command {bytes : List Byte} : examineFrame bytes = .command code payload ↔
    commandLength code = some payload.length ∧ ∃ pad, bytes = code :: BitVec.ofNat 8 payload.length :: payload ++
      crc (code :: BitVec.ofNat 8 payload.length :: payload) :: pad := by
  constructor
  · intro h
    match bytes, h with
    | x :: len :: rest, h =>
      by_cases hshort : 28 < len.toNat ∨ rest.length ≤ len.toNat
      · rw [examineFrame, examineBody_short hshort] at h; cases h
      · simp only [not_or, Nat.not_lt, Nat.not_le] at hshort
        obtain ⟨hlen, hlong⟩ := hshort
        obtain ⟨q, check, pad, rfl, hq⟩ := exists_payload_check hlong
        rw [examineFrame, examineBody_whole hlen hq] at h
        split at h
        · next hcheck =>
          obtain ⟨hrequired, rfl, rfl⟩ := examineCode_eq_command.mp h
          have hlength : BitVec.ofNat 8 payload.length = len := by rw [hq, BitVec.ofNat_toNat, BitVec.setWidth_eq]
          exact ⟨hrequired, pad, by rw [hlength, hcheck]; rfl⟩
        · cases h
  · rintro ⟨hrequired, pad, rfl⟩
    have hle := commandLength_le hrequired
    have hlen : (BitVec.ofNat 8 payload.length).toNat = payload.length := by rw [BitVec.toNat_ofNat]; omega
    refine (examineBody_whole (Nat.le_trans (Nat.le_of_eq hlen) hle) hlen.symm _ pad).trans ((if_pos rfl).trans ?_)
    exact examineCode_eq_command.mpr ⟨hrequired, rfl, rfl⟩

/-! ## The release of a frame (R164) -/

theorem exec_frameNotTaken_refused {status : Status} (h : s.frame = .opened)
    (hframe : examineFrame s.receiver = .notTaken status) :
    exec .frameNotTaken s = .next (s.respond (Response.refusal status)) := by
  have hrelease : s.frameNotTaken = s.respond (Response.refusal status) := by
    simp only [State.frameNotTaken, h, hframe]
    rfl
  exact congrArg Host.Outcome.next hrelease

theorem exec_frameNotTaken_command (h : s.frame = .opened) (hframe : examineFrame s.receiver = .command code payload) :
    exec .frameNotTaken s = .next s :=
  congrArg Host.Outcome.next (by simp only [State.frameNotTaken, h, hframe])

theorem crc_append (bytes : List Byte) (b : Byte) : crc (bytes ++ [b]) = crcByte (crc bytes) b := by
  simp [crc]

/-- Settles O40: the examination of the received bytes, case by case. -/
theorem frameNotTakenAnswersItsFirstFault : Obligations.FrameNotTakenAnswersItsFirstFault := by
  refine ⟨⟨rfl, crc_append, by decide +kernel, by decide +kernel, by decide +kernel, by decide +kernel⟩,
    commandLength_eq_some, fun s hopen => ⟨fun hshort => ?_, fun code len rest hreceiver => ⟨fun hshort => ?_, ?whole⟩⟩⟩
  · refine exec_frameNotTaken_refused hopen ?_
    match s.receiver, hshort with
    | [], _ => rfl
    | [_], _ => rfl
  · refine exec_frameNotTaken_refused hopen ?_
    rw [hreceiver]
    exact examineBody_short hshort
  case whole =>
    rintro payload check pad hlen rfl hpayload
    have hframe : examineFrame s.receiver =
        if check = crc (code :: len :: payload) then examineCode code payload else .notTaken .badFrame := by
      rw [hreceiver]
      exact examineBody_whole hlen hpayload check pad
    refine ⟨fun hcheck => ?_, fun hcheck hcode => ?_, fun n hcheck hcode hn => ?_, fun hcheck hcode => ?_⟩
    · exact exec_frameNotTaken_refused hopen (hframe.trans (if_neg hcheck))
    all_goals rw [if_pos hcheck] at hframe
    · exact exec_frameNotTaken_refused hopen (hframe.trans (by rw [examineCode, hcode]; rfl))
    · refine exec_frameNotTaken_refused hopen (hframe.trans ?_)
      rw [examineCode, hcode]
      exact if_neg (hpayload ▸ hn)
    · have hcommand : examineCode code payload = .command code payload :=
        examineCode_eq_command.mpr ⟨hpayload ▸ hcode, rfl, rfl⟩
      exact exec_frameNotTaken_command hopen (hframe.trans hcommand)

/-! ## Deliveries and refusals (R159, R161, R164 to R166) -/

theorem State.delivers_iff : s.delivers code payload = true ↔
    s.inReset = false ∧ (s.frame = .idle ∨ s.frame = .opened ∧ s.frameCarries code payload) := by
  rw [State.delivers, Bool.and_eq_true, Bool.not_eq_true']
  refine and_congr_right fun _ => ?_
  cases h : s.frame with
  | idle => simp
  | opened =>
    rw [decide_eq_true_iff, examineFrame_eq_command]
    exact ⟨fun hc => .inr ⟨rfl, hc⟩, fun hc => hc.elim nofun And.right⟩
  | void => simp

/-- What an act answers is OK, or it refuses and changes nothing. -/
def State.Answers (s : State) (x : State × Response) : Prop := x.2.status = .ok ∨ ∃ status, x = (s, Response.refusal status)

theorem State.Answers.ok {t : State} {q : List Byte} : s.Answers (t, Response.okWith q) := .inl rfl

theorem State.Answers.okEmpty {t : State} : s.Answers (t, Response.okEmpty) := .inl rfl

theorem State.Answers.refusal {status : Status} : s.Answers (s, Response.refusal status) := .inr ⟨status, rfl⟩

theorem State.Answers.ite {p : Prop} [Decidable p] {x y : State × Response} (hx : s.Answers x) (hy : s.Answers y) :
    s.Answers (if p then x else y) := by
  split
  · exact hx
  · exact hy

theorem onOccupied_answers {act : Fin 48 → Entry → State × Response} (hact : ∀ i e, s.Answers (act i e)) :
    s.Answers (onOccupied b s act) := by
  unfold onOccupied
  split
  · exact .refusal
  · exact .ite (hact _ _) .refusal

theorem managementAct_answers (c : Instr) (s : State) : s.Answers (managementAct c s) := by
  cases c
  case setMode code =>
    show s.Answers (setModeAct code s)
    unfold setModeAct
    split
    · exact .okEmpty
    · exact .refusal
  case getStatus => exact .ok
  case readTime => exact .ok
  case loadEntry p =>
    show s.Answers (loadEntryAct p s)
    unfold loadEntryAct
    split
    · exact .ite (.ite .okEmpty .refusal) .refusal
    · exact .refusal
  case tuneEntry p =>
    show s.Answers (tuneEntryAct p s)
    unfold tuneEntryAct
    split
    · exact .ite .refusal (.ite .refusal (.ite .okEmpty .refusal))
    · exact .refusal
  case setFresh p =>
    show s.Answers (setFreshAct p s)
    unfold setFreshAct
    split
    · exact .refusal
    · exact .ite .refusal (.ite .refusal (.ite .refusal (.ite .okEmpty .refusal)))
  case retireEntry b => exact onOccupied_answers fun i e => .ite .refusal .okEmpty
  case preloadReference b v => exact onOccupied_answers fun i e => .ite .okEmpty .refusal
  case forgetReference b => exact onOccupied_answers fun i e => .okEmpty
  case clearSticky b f => exact .ite .refusal (onOccupied_answers fun i e => .okEmpty)
  case readEntry b =>
    show s.Answers (readEntryAct b s)
    unfold readEntryAct
    split
    · exact .refusal
    · exact .ok
  case releaseEntry b =>
    show s.Answers (releaseEntryAct b s)
    unfold releaseEntryAct
    split
    · exact .refusal
    · exact .ite .okEmpty .refusal
  case configGroupEnable p =>
    show s.Answers (configGroupEnableAct p s)
    unfold configGroupEnableAct
    split
    · exact .refusal
    · exact .ite .refusal .okEmpty
  case configGroupDisable p =>
    show s.Answers (configGroupDisableAct p s)
    unfold configGroupDisableAct
    split
    · exact .refusal
    · exact .ite .refusal .okEmpty
  case readGroup b =>
    show s.Answers (readGroupAct b s)
    unfold readGroupAct
    split
    · exact .refusal
    · exact .ok
  case configRing base n => exact .ite .refusal (.ite .refusal (.ite .refusal .okEmpty))
  case ringOff =>
    show s.Answers (ringOffAct s)
    unfold ringOffAct
    split
    · exact .refusal
    · exact .refusal
    · exact .refusal
    · exact .okEmpty
  case ringPoll =>
    show s.Answers (ringPollAct s)
    unfold ringPollAct
    split
    · exact .okEmpty
    · exact .okEmpty
    · exact .refusal
    · exact .refusal
  case setTick n => exact .ite .refusal .okEmpty
  all_goals exact .okEmpty

/-- A delivered command that refuses changes nothing but the held response and the line. -/
theorem exec_refused_of_status (hc : managementCommand c = some (code, payload)) (hbit : enableBitFits c)
    (hd : s.delivers code payload = true) :
    ∃ t, exec c s = .next t ∧ t.frame = .idle ∧ t.receiver = [] ∧
      (t.held.status ≠ .ok → t = s.respond (Response.refusal t.held.status)) := by
  refine ⟨_, exec_delivered hc hbit hd, rfl, rfl, fun hstatus => ?_⟩
  rcases managementAct_answers c s with hok | ⟨status, hact⟩
  · exact absurd hok hstatus
  · rw [hact]
    rfl

/-- Settles O52: deliveries by the frame, refusals by the commands' acts, and the index tested first. -/
theorem refusedCommandsChangeNothing : Obligations.RefusedCommandsChangeNothing := by
  refine ⟨fun code payload s => State.delivers_iff, fun c code payload s hc => ⟨fun hnot => ?_, fun hbit hreset hframe => ?_⟩,
    fun s b hb => ?_⟩
  · refine exec_undelivered hc (Bool.eq_false_iff.mpr fun hd => ?_)
    obtain ⟨hreset, hframe⟩ := State.delivers_iff.mp hd
    rcases hnot with h | h | ⟨h, hcarries⟩
    · rw [h] at hreset; cases hreset
    · rw [h] at hframe
      exact hframe.elim nofun fun h => nomatch h.1
    · rw [h] at hframe
      exact hframe.elim nofun fun h => hcarries h.2
  · exact exec_refused_of_status hc hbit (State.delivers_iff.mpr ⟨hreset, hframe⟩)
  · have hindex := entryOf_none hb
    refine ⟨fun p hp hd => ?_, fun p hp hd => ?_, fun p hp hd => ?_, fun hd => ?_, fun hd => ?_, fun hd => ?_, fun hd => ?_,
      fun v hd => ?_, fun f hd => ?_⟩
    all_goals
      refine exec_answered rfl ⟨nofun, nofun⟩ hd ?_
      dsimp only [managementAct, retireEntryAct, preloadReferenceAct, forgetReferenceAct]
    · exact loadEntryAct_unnamed (.inl (hp ▸ hindex))
    · exact tuneEntryAct_unnamed (.inl (hp ▸ hindex))
    · exact setFreshAct_refused (.inl (hp ▸ hindex))
    · exact onOccupied_unindexed hindex
    · simp only [readEntryAct, hindex]
    · exact onOccupied_unindexed hindex
    · simp only [releaseEntryAct, hindex]
    · exact onOccupied_unindexed hindex
    · unfold clearStickyAct
      split
      · rfl
      · exact onOccupied_unindexed hindex

end Sys2Proof.Machine
end

section
/-! SUPPORT. Sweeps over the entries and the groups: the tick, the expiries and the mode changes (R55 to R57, R108 to R110,
R112, R114, R115, R120, R129, R151 to R155). -/

namespace Sys2Proof.Machine

variable {s t : State} {g h : Fin 8} {i j : Fin 48} {e : Entry} {x : Group} {ends : Group → Bool} {cause : AbandonCause}

/-! ## Sweeps that report (R129) -/

/-- The state with these entries, groups and staged values. -/
def State.withRounds (s : State) (es : Vector Entry 48) (gs : Vector Group 8) (ss : Vector (Option Int) 48) : State :=
  { s with entries := es, groups := gs, staged := ss }

theorem State.createRecord_withRounds (s : State) (es : Vector Entry 48) (gs : Vector Group 8)
    (ss : Vector (Option Int) 48) (d : Detail) (x : Subject) (a v : Word) :
    (s.withRounds es gs ss).createRecord d x a v = (s.createRecord d x a v).withRounds es gs ss := by
  cases h : s.ringState <;> simp only [State.createRecord, State.withRounds, State.countLost, h] <;> split <;> rfl

theorem State.reportAll_withRounds (es : Vector Entry 48) (gs : Vector Group 8) (ss : Vector (Option Int) 48) :
    ∀ (xs : List Report) (s : State), (s.withRounds es gs ss).reportAll xs = (s.reportAll xs).withRounds es gs ss
  | [], _ => rfl
  | x :: xs, s => by
    rw [State.reportAll_cons, State.createRecord_withRounds, State.reportAll_withRounds es gs ss xs, State.reportAll_cons]

/-- The state after these records, with the cause set where there is one. -/
def State.reported (s : State) (xs : List Report) (c : Byte) : State :=
  (s.reportAll xs).setCause (if xs.isEmpty then 0 else c)

theorem State.reported_nil (s : State) (c : Byte) : s.reported [] c = s := by
  simp [State.reported, State.reportAll, State.setCause]

theorem State.reported_withRounds (s : State) (es : Vector Entry 48) (gs : Vector Group 8) (ss : Vector (Option Int) 48)
    (xs : List Report) (c : Byte) : (s.withRounds es gs ss).reported xs c = (s.reported xs c).withRounds es gs ss := by
  rw [State.reported, State.reportAll_withRounds]; rfl

theorem State.reported_reported (s : State) (xs ys : List Report) (c d : Byte) : (s.reported xs c).reported ys d =
    (s.reportAll (xs ++ ys)).setCause ((if xs.isEmpty then 0 else c) ||| if ys.isEmpty then 0 else d) := by
  rw [State.reported, State.reported, State.reportAll_setCause, State.setCause_setCause, State.reportAll_append]

theorem State.reported_append (s : State) (xs ys : List Report) (c : Byte) :
    (s.reported xs c).reported ys c = s.reported (xs ++ ys) c := by
  rw [State.reported_reported, State.reported]
  congr 1
  cases xs <;> cases ys <;> simp

/-- A step of a sweep reports at most one record with its cause, and writes entries, groups and staged values. -/
def State.Sweeps {α : Type} (f : State → α → State) (report : State → α → Option Report) (c : Byte) : Prop :=
  ∀ s a, ∃ es gs ss, f s a = (s.reported (report s a).toList c).withRounds es gs ss

/-- A sweep reports what each of its elements would have reported alone, in their order (R129). -/
theorem State.Sweeps.foldl {α : Type} {f : State → α → State} {report : State → α → Option Report} {c : Byte}
    (hf : State.Sweeps f report c) (hkeep : ∀ s a b, a ≠ b → report (f s a) b = report s b) :
    ∀ (l : List α) (s : State), l.Nodup →
      ∃ es gs ss, l.foldl f s = (s.reported (l.filterMap (report s)) c).withRounds es gs ss
  | [], s, _ => ⟨s.entries, s.groups, s.staged, by rw [List.filterMap_nil, State.reported_nil]; rfl⟩
  | a :: l, s, hnodup => by
    obtain ⟨ha, hrest⟩ := List.nodup_cons.mp hnodup
    obtain ⟨es, gs, ss, htail⟩ := State.Sweeps.foldl hf hkeep l (f s a) hrest
    have hreports : l.filterMap (report (f s a)) = l.filterMap (report s) :=
      filterMap_of_mem fun b hb => hkeep s a b fun hab => ha (hab ▸ hb)
    obtain ⟨es', gs', ss', hstep⟩ := hf s a
    refine ⟨es, gs, ss, ?_⟩
    have hcons : (report s a).toList ++ l.filterMap (report s) = (a :: l).filterMap (report s) := by
      rw [List.filterMap_cons]
      cases report s a <;> rfl
    rw [List.foldl_cons, htail, hreports, hstep, State.reported_withRounds, State.reported_append, hcons]
    rfl

/-! ## The expiries of the entries (R114, R115) -/

/-- The STALE record of an entry's expiry, where its running countdown stands at 0 (R115). -/
def State.staleReport (s : State) (i : Fin 48) : Option Report :=
  if (s.entry i).deadlineRuns s.mode = true ∧ (s.entry i).remaining = some 0 then
    some { detail := .stale (s.pendsFallback (s.entry i)), subject := .entry i
           address := (s.entry i).address, value := s.staleValue (s.entry i) }
  else none

theorem State.sweeps_expireEntry : State.Sweeps (fun s i => s.expireEntry i) State.staleReport causeStale := by
  intro s i
  unfold State.expireEntry State.staleReport
  dsimp only
  split
  · rw [State.createRecord_setEntry]
    exact ⟨_, _, _, rfl⟩
  · exact ⟨_, _, _, by rw [Option.toList_none, State.reported_nil]; rfl⟩

theorem State.staleReport_congr (he : t.entry i = s.entry i) (hmode : t.mode = s.mode) :
    t.staleReport i = s.staleReport i := by
  unfold State.staleReport State.staleValue State.pendsFallback
  rw [he, hmode]

theorem State.staleReport_expireEntry (s : State) (i j : Fin 48) (h : i ≠ j) :
    (s.expireEntry i).staleReport j = s.staleReport j :=
  State.staleReport_congr (by rw [State.entry_expireEntry, if_neg h]) (s.expireEntry_judged i).mode

/-! ## Rounds abandoned in turn (R55 to R57) -/

/-- The ABANDON record of a group that a sweep ends (R55, R70). -/
def State.endReport (ends : Group → Bool) (cause : AbandonCause) (s : State) (g : Fin 8) : Option Report :=
  if ends (s.group g) then some (s.abandonReport g cause (BitVec.ofNat 32 ((s.group g).remaining.getD 0))) else none

theorem State.sweeps_abandonWhere :
    State.Sweeps (State.abandonWhere ends cause) (State.endReport ends cause) causeGroup := by
  intro s g
  unfold State.abandonWhere State.endReport
  split
  · exact ⟨_, _, _, rfl⟩
  · exact ⟨_, _, _, by rw [Option.toList_none, State.reported_nil]; rfl⟩

/-- A round's record speaks of the members, their addresses and their staged values. -/
theorem State.abandonReport_congr (haddr : ∀ j, (t.entry j).address = (s.entry j).address)
    (hmem : ∀ i, t.isMember g i = s.isMember g i)
    (hstaged : ∀ i, s.isMember g i = true → t.stagedValue i = s.stagedValue i) (c : AbandonCause) (v : Word) :
    t.abandonReport g c v = s.abandonReport g c v := by
  have hmask : t.stagedMask g = s.stagedMask g := by
    rw [State.stagedMask, State.stagedMask, State.members_congr haddr hmem]
    have hmap : ((s.members g).take 8).map (fun i => (t.stagedValue i).isSome) =
        ((s.members g).take 8).map fun i => (s.stagedValue i).isSome :=
      List.map_congr_left fun i hi => by rw [hstaged i (State.mem_members.mp (List.mem_of_mem_take hi))]
    rw [hmap]
  rw [State.abandonReport, State.abandonReport, hmask, State.lowestAddress_congr haddr hmem]

theorem State.endReport_congr (hgroup : t.group g = s.group g) (haddr : ∀ j, (t.entry j).address = (s.entry j).address)
    (hmem : ∀ i, t.isMember g i = s.isMember g i)
    (hstaged : ∀ i, s.isMember g i = true → t.stagedValue i = s.stagedValue i) :
    t.endReport ends cause g = s.endReport ends cause g := by
  rw [State.endReport, State.endReport, hgroup, State.abandonReport_congr haddr hmem hstaged]

theorem State.endReport_abandonWhere (s : State) (g h : Fin 8) (hgh : g ≠ h) :
    (s.abandonWhere ends cause g).endReport ends cause h = s.endReport ends cause h := by
  refine State.endReport_congr ?_ (fun j => ?_) (s.isMember_abandonWhere g h) fun i hi => ?_
  · rw [State.group_abandonWhere, if_neg fun h => hgh h.1]
  · rw [State.entry_abandonWhere]
  · rw [State.stagedValue_abandonWhere, if_neg fun h => hgh (State.isMember_unique h.2 hi)]

/-! ## A tick (R108 to R110) -/

/-- The clock after a tick, with nothing counted down yet (R108, R109). -/
def State.newInterval (s : State) : State :=
  { s with tickCounter := s.tickCounter + 1, intervalLength := s.tickLength, clkCount := 0, usCount := 0 }

theorem Entry.deadlineRuns_iff {m : Mode} : e.deadlineRuns m = true ↔ e.state = .ready ∧ m ≠ .bypass := by
  simp [Entry.deadlineRuns]

theorem Entry.tickDown_runs {m : Mode} (h : e.state = .ready) (hm : m ≠ .bypass) :
    e.tickDown m = { e with remaining := countDown e.remaining } := if_pos (Entry.deadlineRuns_iff.mpr ⟨h, hm⟩)

theorem Entry.tickDown_rests {m : Mode} (h : ¬ (e.state = .ready ∧ m ≠ .bypass)) : e.tickDown m = e :=
  if_neg fun hr => h (Entry.deadlineRuns_iff.mp hr)

/-- An entry's deadline falls due in a tick exactly where its countdown stood at 1 (R110). -/
theorem Entry.DeadlineLawful.due_tickDown {m : Mode} (he : e.DeadlineLawful m) :
    (e.tickDown m).deadlineRuns m = true ∧ (e.tickDown m).remaining = some 0 ↔ m ≠ .bypass ∧ e.remaining = some 1 := by
  by_cases hruns : e.state = .ready ∧ m ≠ .bypass
  · obtain ⟨hready, hmode⟩ := hruns
    rw [Entry.tickDown_runs hready hmode, Entry.deadlineRuns_iff]
    simp only [hready, hmode, ne_eq, not_false_eq_true, true_and, countDown, Option.map_eq_some_iff]
    constructor
    · rintro ⟨n, hn, hzero⟩
      obtain ⟨-, hpos, -⟩ := he.count n hn
      rw [hn]; congr; omega
    · exact fun h1 => ⟨1, h1, rfl⟩
  · rw [Entry.tickDown_rests hruns, Entry.deadlineRuns_iff]
    exact ⟨fun h => absurd h.1 hruns, fun h => absurd ⟨(he.count 1 h.2).1, h.1⟩ hruns⟩

theorem State.DeadlinesLawful.staleReports (hs : s.DeadlinesLawful) :
    (List.finRange 48).filterMap s.tickCountdowns.staleReport = s.staleReports := by
  refine filterMap_of_mem fun i _ => ?_
  have hmode : s.tickCountdowns.mode = s.mode := rfl
  have hkept : ((s.entry i).tickDown s.mode).address = (s.entry i).address ∧
      ((s.entry i).tickDown s.mode).fallback = (s.entry i).fallback :=
    ⟨(Entry.sameSetup_tickDown _ _).address, (Entry.sameSetup_tickDown _ _).fallback⟩
  simp only [State.staleReport, State.entry_tickCountdowns, hmode, (hs i).due_tickDown, State.staleValue,
    State.pendsFallback, hkept]

theorem State.GroupsLawful.timeoutReports (hs : s.GroupsLawful) :
    (List.finRange 8).filterMap (s.afterExpiries.endReport Group.due .timeout) = s.timeoutReports := by
  refine filterMap_of_mem fun g _ => ?_
  have hreport (v : Word) : s.afterExpiries.abandonReport g .timeout v = s.abandonReport g .timeout v :=
    State.abandonReport_congr (fun j => (s.sameSetup_afterExpiries j).address) (s.isMember_afterExpiries g)
      (fun i _ => s.stagedValue_afterExpiries i) _ v
  simp only [State.endReport, State.group_afterExpiries, hreport, hs.due_tickDown]
  split
  · next hone =>
    have hopen : (s.group g).state = .opened := (hs.countdown g).mp (by rw [hone]; rfl)
    simp [Group.tickDown, hopen, hone, countDown]
  · rfl

/-- A tick: its clock, its records and causes, and the tables that it writes (R108 to R110, R129). -/
theorem State.tickEvent_reports (hdeadlines : s.DeadlinesLawful) (hgroups : s.GroupsLawful) :
    ∃ es gs ss, s.tickEvent = ((s.newInterval.reportAll (s.staleReports ++ s.timeoutReports)).setCause
      ((if s.staleReports.isEmpty then 0 else causeStale) ||| if s.timeoutReports.isEmpty then 0 else causeGroup)
      ).withRounds es gs ss := by
  obtain ⟨es, gs, ss, hentries⟩ := State.sweeps_expireEntry.foldl State.staleReport_expireEntry _ s.tickCountdowns
    (List.nodup_finRange 48)
  obtain ⟨es', gs', ss', hrounds⟩ := State.sweeps_abandonWhere.foldl State.endReport_abandonWhere _ s.afterExpiries
    (List.nodup_finRange 8)
  refine ⟨es', gs', ss', ?_⟩
  have hclock : s.tickCountdowns = s.newInterval.withRounds s.tickCountdowns.entries s.tickCountdowns.groups s.staged := rfl
  have hafter : s.afterExpiries = (s.newInterval.reported s.staleReports causeStale).withRounds es gs ss := by
    refine hentries.trans ?_
    rw [hdeadlines.staleReports, hclock, State.reported_withRounds]
    rfl
  rw [State.tickEvent_eq, hrounds, hgroups.timeoutReports, hafter, State.reported_withRounds, State.reported_reported]
  rfl

theorem exec_tick (h : s.inReset = false) : exec .tick s = .next s.tickEvent :=
  congrArg Host.Outcome.next (if_neg (by rw [h]; nofun))

theorem Entry.expireIfDue_rests {m : Mode} {n : Nat} (h : ¬ (e.deadlineRuns m = true ∧ e.remaining = some 0)) :
    e.expireIfDue m n = e := if_neg h

/-- An entry whose deadline a tick ends (R110, R114). -/
theorem State.entry_tickEvent_expired (hready : (s.entry i).state = .ready) (hmode : s.mode ≠ .bypass)
    (h : (s.entry i).remaining = some 1) : s.tickEvent.entry i = { s.entry i with
      state := .stale, remaining := none, sticky := (s.entry i).sticky ||| 0x20
      mark := if s.mode = .enforce ∧ (s.entry i).fallback.isSome = true then some s.accepted else (s.entry i).mark } := by
  rw [State.entry_tickEvent, Entry.tickDown_runs hready hmode, h, Entry.expireIfDue,
    if_pos ⟨Entry.deadlineRuns_iff.mpr ⟨hready, hmode⟩, rfl⟩, Entry.expire]
  simp [stickyStale]

/-- A group whose countdown a tick ends (R56, R110). -/
theorem State.group_tickEvent_expired (hopen : (s.group g).state = .opened) (h : (s.group g).remaining = some 1) :
    s.tickEvent.group g = { s.group g with state := .idle, remaining := none } := by
  have hdown : (s.group g).tickDown = { s.group g with remaining := some 0 } := by
    rw [Group.tickDown, if_pos hopen, h]
    rfl
  rw [State.group_tickEvent, hdown, if_pos (by simp [Group.due, hopen])]
  rfl

/-- The parts of a state that a sweep writes, read off the state itself. -/
theorem State.eq_withRounds {es : Vector Entry 48} {gs : Vector Group 8} {ss : Vector (Option Int) 48}
    (h : t = s.withRounds es gs ss) : t = { s with entries := t.entries, groups := t.groups, staged := t.staged } := by
  rw [h]
  rfl

/-- Settles O35: the countdowns, then the two sweeps of expiries, each read entry by entry and group by group. -/
theorem tickCountsAndExpires : Obligations.TickCountsAndExpires := by
  intro s hreset hdeadlines hgroups
  obtain ⟨es, gs, ss, hreports⟩ := State.tickEvent_reports hdeadlines hgroups
  refine ⟨_, exec_tick hreset, State.eq_withRounds hreports, fun i hrests => ?_, fun i n hmode hn => ?_,
    fun i hmode hone => ?_, fun g hclosed => ?_, fun g n hn => ?_, fun g hone => ?_, fun i hend => ?_, fun i hend => ?_⟩
  · rw [State.entry_tickEvent]
    by_cases hruns : (s.entry i).state = .ready ∧ s.mode ≠ .bypass
    · have hnone : (s.entry i).remaining = none := by
        rcases hrests with h | h | h
        · exact absurd hruns.1 h
        · exact absurd h hruns.2
        · exact h
      have hdown : (s.entry i).tickDown s.mode = s.entry i := by
        rw [Entry.tickDown_runs hruns.1 hruns.2, hnone]
        show { s.entry i with remaining := none } = s.entry i
        rw [← hnone]
      rw [hdown]
      exact Entry.expireIfDue_rests fun h => by rw [hnone] at h; cases h.2
    · rw [Entry.tickDown_rests hruns]
      exact Entry.expireIfDue_rests fun h => hruns (Entry.deadlineRuns_iff.mp h.1)
  · obtain ⟨hready, -⟩ := (hdeadlines i).count _ hn
    rw [State.entry_tickEvent, Entry.tickDown_runs hready hmode, hn]
    exact Entry.expireIfDue_rests fun h => by cases h.2
  · exact State.entry_tickEvent_expired ((hdeadlines i).count _ hone).1 hmode hone
  · have hdown : (s.group g).tickDown = s.group g := if_neg hclosed
    rw [State.group_tickEvent, hdown]
    exact if_neg fun h => by simp [Group.due, hclosed] at h
  · have hopen : (s.group g).state = .opened := (hgroups.countdown g).mp (by rw [hn]; rfl)
    have hlater : ¬ (s.group g).tickDown.due = true := by
      rw [hgroups.due_tickDown, hn]
      nofun
    rw [State.group_tickEvent, if_neg hlater, Group.tickDown, if_pos hopen, hn]
    rfl
  · exact State.group_tickEvent_expired ((hgroups.countdown g).mp (by rw [hone]; rfl)) hone
  all_goals
    rw [State.stagedValue_tickEvent]
    simp only [hgroups.due_tickDown, and_comm (a := (s.group _).remaining = some 1)]
  · exact if_pos hend
  · exact if_neg hend

/-! ## The expiries' own rows (R56, R110, R114) -/

/-- DEADLINE_EXPIRY of a running deadline, by the count that stands. -/
theorem State.deadlineExpiry_runs (hreset : s.inReset = false) (hready : (s.entry i).state = .ready)
    (hmode : s.mode ≠ .bypass) :
    ((s.entry i).remaining = some 1 → s.deadlineExpiry i = s.tick) ∧
      ((s.entry i).remaining = some 0 → s.deadlineExpiry i = s.expireEntry i) ∧
      ∀ n, (s.entry i).remaining = some (n + 2) → s.deadlineExpiry i = s := by
  refine ⟨fun h => ?_, fun h => ?_, fun n h => ?_⟩
  all_goals simp [State.deadlineExpiry, hreset, Entry.deadlineRuns_iff, hready, hmode, h]

/-- TIMEOUT_EXPIRY of an OPEN group, by the count that stands. -/
theorem State.timeoutExpiry_runs (hreset : s.inReset = false) (hopen : (s.group g).state = .opened) :
    ((s.group g).remaining = some 1 → s.timeoutExpiry g = s.tick) ∧
      ((s.group g).remaining = some 0 → s.timeoutExpiry g = s.expireGroup g) ∧
      ∀ n, (s.group g).remaining = some (n + 2) → s.timeoutExpiry g = s := by
  refine ⟨fun h => ?_, fun h => ?_, fun n h => ?_⟩
  all_goals simp [State.timeoutExpiry, hreset, hopen, h]

theorem State.expireEntry_due (hready : (s.entry i).state = .ready) (hmode : s.mode ≠ .bypass)
    (h : (s.entry i).remaining = some 0) : s.expireEntry i =
      ((s.setEntry i ((s.entry i).expire (s.pendsFallback (s.entry i)) s.accepted)).createRecord
        (.stale (s.pendsFallback (s.entry i))) (.entry i) (s.entry i).address (s.staleValue (s.entry i))).setCause causeStale :=
  if_pos ⟨Entry.deadlineRuns_iff.mpr ⟨hready, hmode⟩, h⟩

theorem State.expireGroup_due (hopen : (s.group g).state = .opened) (h : (s.group g).remaining = some 0) :
    s.expireGroup g = s.abandon g .timeout := if_pos ⟨hopen, h⟩

/-- Settles O36: each row by the count that stands. -/
theorem expiriesTakenAtZero : Obligations.ExpiriesTakenAtZero := by
  refine ⟨fun s i p hreset hready hmode hp => ?_, fun s g hreset hopen => ?_⟩
  · obtain ⟨atOne, atZero, above⟩ := State.deadlineExpiry_runs hreset hready hmode
    rw [exec_deadlineExpiry]
    refine ⟨fun hone => ?_, fun hzero => ?_, fun n hn => congrArg Host.Outcome.next (above n hn)⟩
    · have htick : Host.Outcome.next (s.deadlineExpiry i) = exec .tick s := congrArg Host.Outcome.next (atOne hone)
      have hexpired := State.entry_tickEvent_expired hready hmode hone
      exact ⟨htick, _, htick.trans (exec_tick hreset), by rw [hexpired], by rw [hexpired]⟩
    · have hpends : s.pendsFallback (s.entry i) = p := by
        rw [Bool.eq_iff_iff, hp, State.pendsFallback, Bool.and_eq_true, decide_eq_true_iff]
      refine congrArg Host.Outcome.next ((atZero hzero).trans ((State.expireEntry_due hready hmode hzero).trans ?_))
      rw [State.staleValue, hpends]
      rfl
  · obtain ⟨atOne, atZero, above⟩ := State.timeoutExpiry_runs hreset hopen
    rw [exec_timeoutExpiry]
    refine ⟨fun hone => ?_, fun hzero => ?_, fun n hn => congrArg Host.Outcome.next (above n hn)⟩
    · have htick : Host.Outcome.next (s.timeoutExpiry g) = exec .tick s := congrArg Host.Outcome.next (atOne hone)
      have hexpired := State.group_tickEvent_expired hopen hone
      exact ⟨htick, _, htick.trans (exec_tick hreset), by rw [hexpired], by rw [hexpired]⟩
    · refine congrArg Host.Outcome.next ((atZero hzero).trans ((State.expireGroup_due hopen hzero).trans ?_))
      rw [State.abandon, hzero]
      rfl

end Sys2Proof.Machine
end

section
/-! SUPPORT. SET_MODE and its effects (R57, R112, R120, R151 to R155, R168). -/

namespace Sys2Proof.Machine

variable {s t : State} {g : Fin 8} {i : Fin 48} {m : Mode} {b : Byte}

theorem Mode.ofCode_of_code (h : b.toNat = m.code) : Mode.ofCode b = some m := by
  unfold Mode.ofCode
  rw [h]
  cases m <;> rfl

theorem Mode.ofCode_none (h : 2 < b.toNat) : Mode.ofCode b = none := by
  unfold Mode.ofCode
  split
  case h_4 => rfl
  all_goals omega

/-! ## The records and the tables of a mode change -/

theorem State.abandonOpen_reports (s : State) :
    ∃ es gs ss, s.abandonOpen = (s.reported s.bypassReports causeGroup).withRounds es gs ss := by
  have hreports : (List.finRange 8).filterMap (s.endReport Group.isOpen .mode) = s.bypassReports :=
    filterMap_of_mem fun g _ => by simp only [State.endReport, Group.isOpen, decide_eq_true_eq]
  rw [State.abandonOpen_eq, ← hreports]
  exact State.sweeps_abandonWhere.foldl State.endReport_abandonWhere _ s (List.nodup_finRange 8)

/-- A mode change abandons the OPEN groups where it enters BYPASS, with their records and cause, and else writes tables. -/
theorem State.modeEffects_reports (s : State) (old m : Mode) {reports : List Report}
    (hreports : reports = if m = .bypass ∧ old ≠ .bypass then s.bypassReports else []) :
    ∃ es gs ss, s.modeEffects old m = (s.reported reports causeGroup).withRounds es gs ss := by
  have hwrites {u : State} (hnone : reports = []) (hu : ∃ es gs ss, u = s.withRounds es gs ss) :
      ∃ es gs ss, u = (s.reported reports causeGroup).withRounds es gs ss := by
    rw [hnone, State.reported_nil]
    exact hu
  have hclear (u : State) : u.clearMarks = u.withRounds u.clearMarks.entries u.groups u.staged := rfl
  obtain ⟨es, gs, ss, habandon⟩ := s.abandonOpen_reports
  cases old with
  | bypass =>
    have hnone : reports = [] := hreports.trans (if_neg fun h => h.2 rfl)
    cases m with
    | bypass => exact hwrites hnone ⟨_, _, _, rfl⟩
    | monitor => exact hwrites hnone ⟨_, _, _, rfl⟩
    | enforce => exact hwrites hnone ⟨_, _, _, rfl⟩
  | monitor =>
    cases m with
    | bypass =>
      have hall : reports = s.bypassReports := hreports.trans (if_pos ⟨rfl, nofun⟩)
      exact ⟨es, gs, ss, habandon.trans (by rw [hall])⟩
    | monitor => exact hwrites hreports ⟨_, _, _, rfl⟩
    | enforce => exact hwrites hreports ⟨_, _, _, rfl⟩
  | enforce =>
    cases m with
    | bypass =>
      have hall : reports = s.bypassReports := hreports.trans (if_pos ⟨rfl, nofun⟩)
      refine ⟨s.abandonOpen.clearMarks.entries, gs, ss, (hclear s.abandonOpen).trans ?_⟩
      generalize s.abandonOpen.clearMarks.entries = es'
      rw [habandon, hall]
      rfl
    | monitor => exact hwrites hreports ⟨_, _, _, hclear s⟩
    | enforce => exact hwrites hreports ⟨_, _, _, rfl⟩

theorem State.changeMode_self (s : State) : s.changeMode s.mode = s := by
  unfold State.changeMode
  cases hmode : s.mode <;> (rw [State.modeEffects, ← hmode])

/-- Only a change to BYPASS writes groups and staged values. -/
theorem State.changeMode_rounds (s : State) (h : m ≠ .bypass) :
    (s.changeMode m).groups = s.groups ∧ (s.changeMode m).staged = s.staged := by
  show (s.modeEffects s.mode m).groups = _ ∧ (s.modeEffects s.mode m).staged = _
  cases m with
  | bypass => exact absurd rfl h
  | monitor => cases s.mode <;> exact ⟨rfl, rfl⟩
  | enforce => cases s.mode <;> exact ⟨rfl, rfl⟩

/-- A change to BYPASS leaves the groups and the staged values of the abandonment. -/
theorem State.changeMode_bypass (h : s.mode ≠ .bypass) :
    (∀ g, (s.changeMode .bypass).group g = s.abandonOpen.group g) ∧
      ∀ i, (s.changeMode .bypass).stagedValue i = s.abandonOpen.stagedValue i := by
  have hclear (u : State) : (∀ g, u.clearMarks.group g = u.group g) ∧ ∀ i, u.clearMarks.stagedValue i = u.stagedValue i :=
    ⟨fun _ => rfl, fun _ => rfl⟩
  show (∀ g, (s.modeEffects s.mode .bypass).group g = _) ∧ ∀ i, (s.modeEffects s.mode .bypass).stagedValue i = _
  cases hmode : s.mode with
  | bypass => exact absurd hmode h
  | monitor => exact ⟨fun _ => rfl, fun _ => rfl⟩
  | enforce => exact hclear _

theorem State.entries_eq (h : ∀ i, t.entry i = s.entry i) : t.entries = s.entries :=
  Vector.ext fun k hk => h ⟨k, hk⟩

/-- Settles O44: the records and the cause by the sweep over the groups, the entries by the modes that are left and entered. -/
theorem setModeTakesItsEffects : Obligations.SetModeTakesItsEffects := by
  intro s b hd
  have hact {m : Mode} (hm : b.toNat = m.code) : exec (.setMode b) s = .next ((s.changeMode m).respond Response.okEmpty) := by
    refine exec_answered rfl ⟨nofun, nofun⟩ hd ?_
    simp only [managementAct, setModeAct, Mode.ofCode_of_code hm]
  refine ⟨fun hbad => ?_, fun hsame => ?_, fun m reports hm hreports => ?_⟩
  · refine exec_answered rfl ⟨nofun, nofun⟩ hd ?_
    simp only [managementAct, setModeAct, Mode.ofCode_none hbad]
  · rw [hact hsame, State.changeMode_self]
  · obtain ⟨es, gs, ss, heffects⟩ := s.modeEffects_reports s.mode m hreports
    refine ⟨_, hact hm, ?_, fun hold hnew i => ?_, fun hold => ?_, fun hold hnew i => ?_, s.changeMode_rounds,
      fun hnew hold => ?_⟩
    · rw [State.changeMode, heffects]
      rfl
    · refine (s.entry_changeMode m i).trans ((if_pos ⟨hold, hnew⟩).trans ?_)
      rfl
    · refine State.entries_eq fun i => (s.entry_changeMode m i).trans ?_
      rw [hold]
      exact (if_neg fun h => nomatch h.1).trans (if_neg fun h => nomatch h.1)
    · refine (s.entry_changeMode m i).trans ?_
      rw [hold]
      exact (if_neg fun h => nomatch h.1).trans (if_pos ⟨rfl, hnew⟩)
    · subst hnew
      obtain ⟨hgroups, hstaged⟩ := State.changeMode_bypass hold
      refine ⟨fun g hg => (hgroups g).trans ?_, fun g hg => (hgroups g).trans ?_, fun i hi => (hstaged i).trans ?_,
        fun i hi => (hstaged i).trans ?_⟩
      · exact (s.group_abandonOpen g).trans (if_pos hg)
      · exact (s.group_abandonOpen g).trans (if_neg hg)
      · rw [State.stagedValue_abandonOpen]
        exact if_pos (hi.imp fun _ => And.symm)
      · rw [State.stagedValue_abandonOpen]
        exact if_neg fun h => hi (h.imp fun _ => And.symm)

end Sys2Proof.Machine
end

section
/-! SUPPORT. SEND, and the commands that read the state: where each field of an answer stands (R22, R71, R84, R161, R169,
R173, R174, R176, R183). -/

namespace Sys2Proof.Machine

variable {s t : State} {g : Fin 8} {i : Fin 48}

/-! ## SEND (R84) -/

/-- Settles O23. -/
theorem oldestAnswerSentInOrder : Obligations.OldestAnswerSentInOrder := by
  refine fun s => ⟨fun x rest st d hreset hslots hx => congrArg Host.Outcome.next ?_,
    fun x rest hslots hx => congrArg Host.Outcome.next ?_, fun hslots => congrArg Host.Outcome.next ?_⟩
  · simp only [State.sendAnswer, hreset, hslots, hx]
  · cases hreset : s.inReset with
    | true => simp only [State.sendAnswer, hreset]
    | false => rcases hx with hx | hx <;> simp only [State.sendAnswer, hreset, hslots, hx]
  · cases hreset : s.inReset <;> simp only [State.sendAnswer, hreset, hslots]

/-! ## Fields of a payload (R161) -/

section
variable {a l : List Byte} {off n : Nat}

@[simp] theorem length_leBytes : ∀ n x : Nat, (leBytes n x).length = n
  | 0, _ => rfl
  | n + 1, x => congrArg Nat.succ (length_leBytes n (x / 256))

theorem leNat_leBytes : ∀ n x : Nat, leNat (leBytes n x) = x % 256 ^ n
  | 0, x => by rw [Nat.pow_zero, Nat.mod_one]; rfl
  | n + 1, x => by
    rw [leBytes, leNat, leNat_leBytes n, BitVec.toNat_ofNat]
    show x % 256 + 256 * (x / 256 % 256 ^ n) = x % 256 ^ (n + 1)
    rw [Nat.pow_succ', Nat.mod_mul]

/-- A field that begins after a part of the payload stands in the rest of it. -/
theorem fieldAt_append_right (h : a.length ≤ off) : fieldAt (a ++ l) off n = fieldAt l (off - a.length) n := by
  rw [fieldAt, fieldAt, List.drop_append, List.drop_eq_nil_of_le h, List.nil_append]

/-- A field that ends within a part of the payload stands in it. -/
theorem fieldAt_append_left (h : off + n ≤ a.length) : fieldAt (a ++ l) off n = fieldAt a off n := by
  rw [fieldAt, fieldAt, List.drop_append_of_le_length (by omega), List.take_append_of_le_length (by simp; omega)]

theorem fieldAt_leBytes (n x : Nat) : fieldAt (leBytes n x) 0 n = x % 256 ^ n := by
  rw [fieldAt, List.drop_zero, List.take_of_length_le (Nat.le_of_eq (length_leBytes n x)), leNat_leBytes]

theorem fieldAt_leBytes_append (n x : Nat) : fieldAt (leBytes n x ++ l) 0 n = x % 256 ^ n :=
  (fieldAt_append_left (by simp)).trans (fieldAt_leBytes n x)

theorem fieldAt_byte (b : Byte) : fieldAt (b :: l) 0 1 = b.toNat := rfl

theorem fieldAt_cons (b : Byte) (h : 0 < off) : fieldAt (b :: l) off n = fieldAt l (off - 1) n :=
  fieldAt_append_right (a := [b]) h

theorem fieldAt_leBytes_skip {m x : Nat} (h : m ≤ off) : fieldAt (leBytes m x ++ l) off n = fieldAt l (off - m) n := by
  rw [fieldAt_append_right (by simpa using h), length_leBytes]

theorem fieldAt_one {b : Byte} (h : l[off]? = some b) : fieldAt l off 1 = b.toNat := by
  obtain ⟨hlt, hb⟩ := List.getElem?_eq_some_iff.mp h
  rw [fieldAt, List.drop_eq_getElem_cons hlt, hb]
  rfl

end

/-! ## The answers (R169, R173, R174) -/

theorem fields_statusBytes (s : State) : s.statusBytes.length = 12 ∧
    fieldAt s.statusBytes 0 1 = s.mode.code ∧ fieldAt s.statusBytes 1 1 = s.ringState.code ∧
    fieldAt s.statusBytes 2 2 = s.head % 2 ^ 16 ∧ fieldAt s.statusBytes 4 1 = s.records.length % 2 ^ 8 ∧
    fieldAt s.statusBytes 5 2 = s.lost % 2 ^ 16 ∧ fieldAt s.statusBytes 7 1 = s.causes.toNat ∧
    fieldAt s.statusBytes 8 1 = s.mask.toNat ∧ fieldAt s.statusBytes 9 1 = s.slots.length % 2 ^ 8 ∧
    fieldAt s.statusBytes 10 1 = s.issueLog.length % 2 ^ 8 ∧ fieldAt s.statusBytes 11 1 = s.commitWait.length % 2 ^ 8 := by
  have hmode : s.mode.code % 256 = s.mode.code := by cases s.mode <;> rfl
  have hring : s.ringState.code % 256 = s.ringState.code := by cases s.ringState <;> rfl
  simp only [State.statusBytes, List.cons_append, List.nil_append, List.append_assoc, List.length_cons, List.length_append,
    length_leBytes, List.length_nil, fieldAt_byte, fieldAt_cons, fieldAt_leBytes_append, fieldAt_leBytes_skip,
    BitVec.toNat_ofNat, hmode, hring, Nat.reduceAdd, Nat.reduceSub, Nat.reduceLT, Nat.reduceLeDiff, Nat.reducePow, and_self]

/-- The bits of a READ_ENTRY answer's rules byte fit their byte (R173). -/
theorem Entry.rulesByte_lt (e : Entry) : e.width.code.toNat + 4 * e.signed.toNat + 8 * e.mergePartial.toNat +
    16 * e.action.code + 64 * e.state.code < 256 := by
  have hwidth := e.width.code.isLt
  have hsigned := e.signed.toNat_lt
  have hmerge := e.mergePartial.toNat_lt
  have haction : e.action.code ≤ 3 := by cases e.action <;> decide
  have hstate : e.state.code ≤ 3 := by cases e.state <;> decide
  omega

theorem bitsNat_lt : ∀ bs : List Bool, bitsNat bs < 2 ^ bs.length
  | [] => Nat.one_pos
  | b :: bs => by
    have hb := b.toNat_lt
    have hbs := bitsNat_lt bs
    rw [bitsNat, List.length_cons, Nat.pow_succ']
    omega

theorem groupNumber_getD_mod (x : Option (Fin 8)) : (x.map groupNumber).getD 0 % 256 = (x.map fun g => g.val + 1).getD 0 := by
  cases x with
  | none => rfl
  | some g => exact Nat.mod_eq_of_lt (by show g.val + 1 < 256; omega)

theorem toNat_word_mod (x : Word) : x.toNat % 4294967296 = x.toNat := Nat.mod_eq_of_lt x.isLt

theorem length_entryBytes (e : Entry) : (entryBytes e).length = 36 := by
  simp [entryBytes, optField]

theorem fields_entryBytes (e : Entry) :
    fieldAt (entryBytes e) 0 4 = e.address.toNat ∧
    fieldAt (entryBytes e) 4 1 = e.width.code.toNat + 4 * e.signed.toNat + 8 * e.mergePartial.toNat + 16 * e.action.code +
      64 * e.state.code ∧
    fieldAt (entryBytes e) 5 1 = e.low.isSome.toNat + 2 * e.high.isSome.toNat + 4 * e.group.isSome.toNat +
      8 * e.period.isSome.toNat + 16 * e.fallback.isSome.toNat + 32 * e.reference.isSome.toNat +
      64 * e.remaining.isSome.toNat + 128 * e.mark.isSome.toNat ∧
    fieldAt (entryBytes e) 6 4 = (valueWord (e.low.getD 0)).toNat ∧
    fieldAt (entryBytes e) 10 4 = (valueWord (e.high.getD 0)).toNat ∧
    fieldAt (entryBytes e) 14 4 = e.step % 2 ^ 32 ∧
    fieldAt (entryBytes e) 18 4 = (valueWord (e.fallback.getD 0)).toNat ∧
    fieldAt (entryBytes e) 22 4 = (valueWord (e.reference.getD 0)).toNat ∧
    fieldAt (entryBytes e) 26 1 = e.trip % 2 ^ 8 ∧
    fieldAt (entryBytes e) 27 1 = (e.group.map fun g => g.val + 1).getD 0 ∧
    fieldAt (entryBytes e) 28 2 = e.period.getD 0 % 2 ^ 16 ∧
    fieldAt (entryBytes e) 30 2 = e.remaining.getD 0 % 2 ^ 16 ∧
    fieldAt (entryBytes e) 32 1 = e.violations % 2 ^ 8 ∧ fieldAt (entryBytes e) 33 2 = e.denials % 2 ^ 16 ∧
    fieldAt (entryBytes e) 35 1 = e.sticky.toNat := by
  have hrules := Nat.mod_eq_of_lt e.rulesByte_lt
  have hpresent := Nat.mod_eq_of_lt (bitsNat_lt [e.low.isSome, e.high.isSome, e.group.isSome, e.period.isSome,
    e.fallback.isSome, e.reference.isSome, e.remaining.isSome, e.mark.isSome])
  simp only [List.length_cons, List.length_nil, Nat.reduceAdd, Nat.reducePow] at hpresent
  have hsticky : e.sticky.toNat % 256 = e.sticky.toNat := Nat.mod_eq_of_lt (Nat.lt_trans e.sticky.isLt (by decide))
  simp only [entryBytes, optField, List.cons_append, List.nil_append, List.append_assoc, fieldAt_byte, fieldAt_cons,
    fieldAt_leBytes_append, fieldAt_leBytes_skip, BitVec.toNat_ofNat, BitVec.toNat_setWidth, hrules, hpresent, hsticky,
    toNat_word_mod, groupNumber_getD_mod, Nat.reduceSub, Nat.reduceLT, Nat.reduceLeDiff, Nat.reducePow,
    true_and, and_true]
  simp only [bitsNat]
  omega

/-! ## READ_GROUP (R71, R174) -/

theorem length_memberBytes (l : List (Fin 48)) : (memberBytes l).length = 8 := by
  simp [memberBytes]

theorem memberBytes_member {l : List (Fin 48)} {k : Nat} (hk : k < 8) (h : l[k]? = some i) :
    (memberBytes l)[k]? = some (BitVec.ofNat 8 i.val) := by
  obtain ⟨hlt, -⟩ := List.getElem?_eq_some_iff.mp h
  rw [memberBytes, List.getElem?_take_of_lt hk, List.getElem?_append_left (by simp; omega), List.getElem?_map,
    List.getElem?_take_of_lt hk, h]
  rfl

theorem memberBytes_unused {l : List (Fin 48)} {k : Nat} (hk : k < 8) (h : l.length ≤ k) :
    (memberBytes l)[k]? = some 0xFF := by
  rw [memberBytes, List.getElem?_take_of_lt hk, List.getElem?_append_right (by simp; omega), List.getElem?_replicate_of_lt]
  simp
  omega

theorem State.listPosition_of_first {k : Nat} (h : s.commitWait[k]? = some g)
    (hfirst : ∀ j, j < k → s.commitWait[j]? ≠ some g) : s.listPosition g = k + 1 := by
  have hfind : (s.commitWait.findIdx? fun h => decide (h = g)) = some k := by
    obtain ⟨hlt, hk⟩ := List.getElem?_eq_some_iff.mp h
    refine List.findIdx?_eq_some_iff_getElem.mpr ⟨hlt, decide_eq_true hk, fun j hj => ?_⟩
    rw [decide_eq_true_iff]
    exact fun hg => hfirst j hj (List.getElem?_eq_some_iff.mpr ⟨Nat.lt_trans hj hlt, hg⟩)
  rw [State.listPosition, hfind]

theorem State.listPosition_absent (h : g ∉ s.commitWait) : s.listPosition g = 0 := by
  have hfind : (s.commitWait.findIdx? fun h => decide (h = g)) = none :=
    List.findIdx?_eq_none_iff.mpr fun x hx => decide_eq_false fun hg => h (hg ▸ hx)
  rw [State.listPosition, hfind]

theorem length_groupReport (s : State) (g : Fin 8) : (s.groupReport g).length = 17 := by
  simp [State.groupReport, length_memberBytes]

theorem fields_groupReport (s : State) (g : Fin 8) :
    fieldAt (s.groupReport g) 0 1 = (s.group g).reportCommit.toNat + 2 * (s.group g).enabled.toNat +
      4 * (s.group g).remaining.isSome.toNat ∧
    fieldAt (s.groupReport g) 1 1 = (s.group g).state.code ∧ fieldAt (s.groupReport g) 2 2 = (s.group g).timeout % 2 ^ 16 ∧
    fieldAt (s.groupReport g) 4 1 = (s.members g).length % 2 ^ 8 ∧
    (∀ k, k < 8 → fieldAt (s.groupReport g) (5 + k) 1 = fieldAt (memberBytes (s.members g)) k 1) ∧
    fieldAt (s.groupReport g) 13 1 = (s.stagedMask g).toNat ∧
    fieldAt (s.groupReport g) 14 2 = (s.group g).remaining.getD 0 % 2 ^ 16 ∧
    fieldAt (s.groupReport g) 16 1 = s.listPosition g % 2 ^ 8 := by
  have hflags := Nat.mod_eq_of_lt (Nat.lt_of_lt_of_le (bitsNat_lt [(s.group g).reportCommit, (s.group g).enabled,
    (s.group g).remaining.isSome]) (by decide : 2 ^ 3 ≤ 256))
  have hstate : (s.group g).state.code % 256 = (s.group g).state.code := by cases (s.group g).state <;> rfl
  have hmembers {l : List Byte} {off n : Nat} (h : 8 ≤ off) :
      fieldAt (memberBytes (s.members g) ++ l) off n = fieldAt l (off - 8) n := by
    rw [fieldAt_append_right (by rwa [length_memberBytes]), length_memberBytes]
  have hmember {l : List Byte} {k : Nat} (hk : k < 8) : fieldAt (memberBytes (s.members g) ++ l) k 1 =
      fieldAt (memberBytes (s.members g)) k 1 := fieldAt_append_left (by rw [length_memberBytes]; omega)
  refine ⟨?_, ?_, ?_, ?_, fun k hk => ?_, ?_, ?_, ?_⟩
  case refine_5 =>
    have hskip : fieldAt (s.groupReport g) (5 + k) 1 = fieldAt (memberBytes (s.members g) ++ ([s.stagedMask g] ++
        leBytes 2 ((s.group g).remaining.getD 0) ++ [BitVec.ofNat 8 (s.listPosition g)])) k 1 := by
      simp only [State.groupReport, List.cons_append, List.nil_append, List.append_assoc]
      rw [fieldAt_cons _ (by omega), fieldAt_cons _ (by omega), fieldAt_leBytes_skip (by omega), fieldAt_cons _ (by omega)]
      congr 1
      omega
    exact hskip.trans (hmember hk)
  all_goals simp only [State.groupReport, List.cons_append, List.nil_append, List.append_assoc, fieldAt_byte, fieldAt_cons,
    fieldAt_leBytes_append, fieldAt_leBytes_skip, hmembers, BitVec.toNat_ofNat, hflags, hstate, Nat.reduceSub,
    Nat.reduceLT, Nat.reduceLeDiff, Nat.reducePow]
  simp only [bitsNat]
  omega

/-- Settles O43: the acts change nothing, and each answer's fields are read off its layout. -/
theorem readCommandsAnswerTheStateAsItStands : Obligations.ReadCommandsAnswerTheStateAsItStands := by
  refine ⟨⟨rfl, rfl, rfl, rfl, rfl⟩, fun s => ⟨fun hd => ⟨_, exec_answered rfl ⟨nofun, nofun⟩ hd rfl, fields_statusBytes s⟩,
    fun hd => ⟨_, exec_answered rfl ⟨nofun, nofun⟩ hd rfl, length_leBytes 4 _,
      (fieldAt_leBytes 4 _).trans (toNat_word_mod s.tickCounter)⟩,
    fun i hd => ⟨entryBytes (s.entry i), exec_answered rfl ⟨nofun, nofun⟩ hd ?_, length_entryBytes _, fields_entryBytes _⟩,
    fun g hd => ?_⟩⟩
  · simp only [managementAct, readEntryAct, entryOf_ofNat]
  · have hg : groupOf (BitVec.ofNat 8 (g.val + 1)).toNat = some g := groupOf_of_eq (by rw [BitVec.toNat_ofNat]; omega)
    obtain ⟨hflags, hstate, htimeout, hlength, hmember, hmask, hremaining, hposition⟩ := fields_groupReport s g
    refine ⟨s.groupReport g, exec_answered rfl ⟨nofun, nofun⟩ hd ?_, length_groupReport s g, hflags, hstate, htimeout,
      hlength, fun k i hk hi => ?_, fun k hk hunused => ?_, fun k i hk hi => ?_, hremaining, fun k hk hfind hfirst => ?_,
      fun habsent => ?_⟩
    · simp only [managementAct, readGroupAct, hg]
    · rw [hmember k hk, fieldAt_one (memberBytes_member hk hi), BitVec.toNat_ofNat]
      omega
    · rw [hmember k hk, fieldAt_one (memberBytes_unused hk hunused)]
      rfl
    · rw [hmask]
      refine (State.getLsbD_stagedMask hk).trans ?_
      rw [hi]
      exact ⟨fun ⟨j, hj, hv⟩ => Option.some.inj hj ▸ hv, fun hv => ⟨i, rfl, hv⟩⟩
    · rw [hposition, State.listPosition_of_first hfind hfirst]
      omega
    · rw [hposition, State.listPosition_absent habsent, Nat.zero_mod]

end Sys2Proof.Machine
end

section
/-! SUPPORT. The frame of a management command and the command alone do the same (R161, R164, R171, R174, R183). -/

namespace Sys2Proof.Machine

variable {s t : State} {c : Instr} {code : Byte} {payload : List Byte}

/-! ## The payloads' layouts (R161, R171, R174, R183) -/

theorem toNat_half_mod (x : Half) : x.toNat % 65536 = x.toNat := Nat.mod_eq_of_lt x.isLt

theorem fields_loadBytes (p : LoadPayload) : (loadBytes p).length = 28 ∧ fieldAt (loadBytes p) 0 1 = p.index.toNat ∧
    fieldAt (loadBytes p) 1 4 = p.address.toNat ∧ fieldAt (loadBytes p) 5 1 = p.wcode.toNat ∧
    fieldAt (loadBytes p) 6 1 = p.flags.toNat ∧ fieldAt (loadBytes p) 7 1 = p.action.toNat ∧
    fieldAt (loadBytes p) 8 4 = p.low.toNat ∧ fieldAt (loadBytes p) 12 4 = p.high.toNat ∧
    fieldAt (loadBytes p) 16 4 = p.step.toNat ∧ fieldAt (loadBytes p) 20 1 = p.trip.toNat ∧
    fieldAt (loadBytes p) 21 1 = p.group.toNat ∧ fieldAt (loadBytes p) 22 2 = p.period.toNat ∧
    fieldAt (loadBytes p) 24 4 = p.fallback.toNat := by
  simp only [loadBytes, List.cons_append, List.nil_append, List.append_assoc, List.length_cons, List.length_append,
    length_leBytes, fieldAt_byte, fieldAt_cons, fieldAt_leBytes, fieldAt_leBytes_append, fieldAt_leBytes_skip,
    toNat_word_mod, toNat_half_mod, Nat.reduceAdd, Nat.reduceSub, Nat.reduceLT, Nat.reduceLeDiff, Nat.reducePow, and_self]

theorem fields_tuneBytes (p : TunePayload) : (tuneBytes p).length = 16 ∧ fieldAt (tuneBytes p) 0 1 = p.index.toNat ∧
    fieldAt (tuneBytes p) 1 1 = p.action.toNat ∧ fieldAt (tuneBytes p) 2 1 = p.flags.toNat ∧
    fieldAt (tuneBytes p) 3 4 = p.low.toNat ∧ fieldAt (tuneBytes p) 7 4 = p.high.toNat ∧
    fieldAt (tuneBytes p) 11 4 = p.step.toNat ∧ fieldAt (tuneBytes p) 15 1 = p.trip.toNat := by
  simp only [tuneBytes, List.cons_append, List.nil_append, List.append_assoc, List.length_cons, List.length_append,
    List.length_nil, length_leBytes, fieldAt_byte, fieldAt_cons, fieldAt_leBytes_append, fieldAt_leBytes_skip,
    toNat_word_mod, Nat.reduceAdd, Nat.reduceSub, Nat.reduceLT, Nat.reduceLeDiff, Nat.reducePow, and_self]

theorem fields_freshBytes (p : FreshPayload) : (freshBytes p).length = 8 ∧ fieldAt (freshBytes p) 0 1 = p.index.toNat ∧
    fieldAt (freshBytes p) 1 1 = p.flags.toNat ∧ fieldAt (freshBytes p) 2 2 = p.period.toNat ∧
    fieldAt (freshBytes p) 4 4 = p.fallback.toNat := by
  simp only [freshBytes, List.cons_append, List.nil_append, List.length_cons, List.length_append, length_leBytes,
    fieldAt_byte, fieldAt_cons, fieldAt_leBytes, fieldAt_leBytes_append, fieldAt_leBytes_skip, toNat_word_mod,
    toNat_half_mod, Nat.reduceAdd, Nat.reduceSub, Nat.reduceLT, Nat.reduceLeDiff, Nat.reducePow, and_self]

theorem fields_groupBytes (p : GroupPayload) : (groupBytes p).length = 4 ∧ fieldAt (groupBytes p) 0 1 = p.group.toNat ∧
    fieldAt (groupBytes p) 1 2 = p.timeout.toNat ∧ fieldAt (groupBytes p) 3 1 = p.flags.toNat := by
  simp only [groupBytes, List.cons_append, List.nil_append, List.length_cons, List.length_append, List.length_nil,
    length_leBytes, fieldAt_byte, fieldAt_cons, fieldAt_leBytes_append, fieldAt_leBytes_skip, toNat_half_mod,
    Nat.reduceAdd, Nat.reduceSub, Nat.reduceLT, Nat.reduceLeDiff, Nat.reducePow, and_self]

/-- Every management command's payload has the length that its code requires (R164). -/
theorem commandLength_management (hc : managementCommand c = some (code, payload)) :
    commandLength code = some payload.length := by
  cases c <;> cases hc
  all_goals rfl

/-! ## Acts and the select line -/

/-- The state with this select line, receiver and outgoing byte. -/
def State.withLink (s : State) (f : FrameState) (r : List Byte) (o : Option Byte) : State :=
  { s with frame := f, receiver := r, outByte := o }

section
variable (f : FrameState) (r : List Byte) (o : Option Byte)

/-- What an act leaves and answers, with this select line, receiver and outgoing byte. -/
def linked (x : State × Response) : State × Response := (x.1.withLink f r o, x.2)

/-- Acts that agree in both branches agree. -/
theorem linked_ite {p : Prop} [Decidable p] {x x' y y' : State × Response} (hx : x' = linked f r o x)
    (hy : y' = linked f r o y) : (if p then x' else y') = linked f r o (if p then x else y) := by
  split
  · exact hx
  · exact hy

theorem State.createRecord_withLink (s : State) (d : Detail) (x : Subject) (a v : Word) :
    (s.withLink f r o).createRecord d x a v = (s.createRecord d x a v).withLink f r o := by
  cases h : s.ringState <;> simp only [State.createRecord, State.withLink, State.countLost, h] <;> split <;> rfl

theorem State.members_withLink (s : State) (g : Fin 8) : (s.withLink f r o).members g = s.members g :=
  State.members_congr (fun _ => rfl) fun _ => rfl

theorem State.lowestAddress_withLink (s : State) (g : Fin 8) : (s.withLink f r o).lowestAddress g = s.lowestAddress g :=
  State.lowestAddress_congr (fun _ => rfl) fun _ => rfl

theorem State.stagedMask_withLink (s : State) (g : Fin 8) : (s.withLink f r o).stagedMask g = s.stagedMask g := by
  rw [State.stagedMask, State.members_withLink]
  rfl

theorem State.groupReport_withLink (s : State) (g : Fin 8) : (s.withLink f r o).groupReport g = s.groupReport g := by
  rw [State.groupReport, State.members_withLink, State.stagedMask_withLink]
  rfl

theorem State.abandon_withLink (s : State) (g : Fin 8) (c : AbandonCause) :
    (s.withLink f r o).abandon g c = (s.abandon g c).withLink f r o := by
  unfold State.abandon
  dsimp only
  rw [State.createRecord_withLink, State.stagedMask_withLink, State.lowestAddress_withLink]
  rfl

theorem State.foldl_abandonIfOpen_withLink : ∀ (l : List (Fin 8)) (s : State),
    l.foldl (fun t g => t.abandonIfOpen g) (s.withLink f r o) =
      (l.foldl (fun t g => t.abandonIfOpen g) s).withLink f r o
  | [], _ => rfl
  | g :: l, s => by
    have hstep : (s.withLink f r o).abandonIfOpen g = (s.abandonIfOpen g).withLink f r o := by
      unfold State.abandonIfOpen
      by_cases hg : (s.group g).state = .opened
      · exact (if_pos hg).trans ((s.abandon_withLink f r o g .mode).trans (by rw [if_pos hg]))
      · exact (if_neg hg).trans (by rw [if_neg hg])
    rw [List.foldl_cons, hstep, State.foldl_abandonIfOpen_withLink l]
    rfl

theorem State.modeEffects_withLink (s : State) (old new : Mode) :
    (s.withLink f r o).modeEffects old new = (s.modeEffects old new).withLink f r o := by
  have habandon : (s.withLink f r o).abandonOpen = s.abandonOpen.withLink f r o :=
    State.foldl_abandonIfOpen_withLink f r o _ s
  have hclear (u : State) : (u.withLink f r o).clearMarks = u.clearMarks.withLink f r o := rfl
  cases old with
  | bypass => cases new <;> rfl
  | monitor =>
    cases new with
    | bypass => exact habandon
    | monitor => rfl
    | enforce => rfl
  | enforce =>
    cases new with
    | bypass => rw [State.modeEffects, State.modeEffects, habandon, hclear]
    | monitor => exact hclear s
    | enforce => rfl

theorem State.endRound_withLink (s : State) (g : Fin 8) :
    (s.withLink f r o).endRound g = (s.endRound g).withLink f r o := by
  unfold State.endRound
  by_cases hg : (s.group g).state = .opened
  · exact (if_pos hg).trans ((s.abandon_withLink f r o g .disable).trans (by rw [if_pos hg]))
  · exact (if_neg hg).trans (by rw [if_neg hg])

theorem onOccupied_withLink (s : State) (b : Byte) {act act' : Fin 48 → Entry → State × Response}
    (hact : ∀ i e, act' i e = linked f r o (act i e)) :
    onOccupied b (s.withLink f r o) act' = linked f r o (onOccupied b s act) := by
  unfold onOccupied
  cases entryOf b with
  | none => rfl
  | some i => exact linked_ite f r o (hact i _) rfl

/-- An act neither reads the select line and its bytes nor writes them. -/
theorem managementAct_withLink (c : Instr) (s : State) :
    managementAct c (s.withLink f r o) = linked f r o (managementAct c s) := by
  cases c
  case setMode code =>
    show setModeAct code (s.withLink f r o) = linked f r o (setModeAct code s)
    unfold setModeAct
    cases Mode.ofCode code with
    | none => rfl
    | some m =>
      refine Prod.ext ?_ rfl
      show { (s.withLink f r o).modeEffects s.mode m with mode := m } =
        State.withLink { s.modeEffects s.mode m with mode := m } f r o
      rw [State.modeEffects_withLink]
      rfl
  case loadEntry p =>
    show loadEntryAct p (s.withLink f r o) = linked f r o (loadEntryAct p s)
    unfold loadEntryAct
    cases entryOf p.index with
    | none => rfl
    | some i =>
      cases Action.ofCode p.action with
      | none => rfl
      | some a => exact linked_ite f r o (linked_ite f r o rfl rfl) rfl
  case tuneEntry p =>
    show tuneEntryAct p (s.withLink f r o) = linked f r o (tuneEntryAct p s)
    unfold tuneEntryAct
    cases entryOf p.index with
    | none => rfl
    | some i =>
      cases Action.ofCode p.action with
      | none => rfl
      | some a => exact linked_ite f r o rfl (linked_ite f r o rfl (linked_ite f r o rfl rfl))
  case setFresh p =>
    show setFreshAct p (s.withLink f r o) = linked f r o (setFreshAct p s)
    unfold setFreshAct
    cases entryOf p.index with
    | none => rfl
    | some i =>
      exact linked_ite f r o rfl (linked_ite f r o rfl (linked_ite f r o rfl (linked_ite f r o rfl rfl)))
  case retireEntry b =>
    show retireEntryAct b (s.withLink f r o) = linked f r o (retireEntryAct b s)
    unfold retireEntryAct
    exact onOccupied_withLink f r o s b fun i e => linked_ite f r o rfl rfl
  case preloadReference b v =>
    show preloadReferenceAct b v (s.withLink f r o) = linked f r o (preloadReferenceAct b v s)
    unfold preloadReferenceAct
    exact onOccupied_withLink f r o s b fun i e => linked_ite f r o rfl rfl
  case forgetReference b =>
    show forgetReferenceAct b (s.withLink f r o) = linked f r o (forgetReferenceAct b s)
    unfold forgetReferenceAct
    exact onOccupied_withLink f r o s b fun i e => rfl
  case clearSticky b flags => exact linked_ite f r o rfl (onOccupied_withLink f r o s b fun i e => rfl)
  case readEntry b =>
    show readEntryAct b (s.withLink f r o) = linked f r o (readEntryAct b s)
    unfold readEntryAct
    cases entryOf b <;> rfl
  case releaseEntry b =>
    show releaseEntryAct b (s.withLink f r o) = linked f r o (releaseEntryAct b s)
    unfold releaseEntryAct
    cases entryOf b with
    | none => rfl
    | some i => exact linked_ite f r o rfl rfl
  case configGroupEnable p =>
    show configGroupEnableAct p (s.withLink f r o) = linked f r o (configGroupEnableAct p s)
    unfold configGroupEnableAct
    cases configTarget p with
    | none => rfl
    | some g =>
      dsimp only
      rw [State.members_withLink]
      exact linked_ite f r o rfl rfl
  case configGroupDisable p =>
    show configGroupDisableAct p (s.withLink f r o) = linked f r o (configGroupDisableAct p s)
    unfold configGroupDisableAct
    cases configTarget p with
    | none => rfl
    | some g =>
      refine linked_ite f r o rfl ?_
      dsimp only
      rw [State.endRound_withLink]
      rfl
  case readGroup b =>
    show readGroupAct b (s.withLink f r o) = linked f r o (readGroupAct b s)
    unfold readGroupAct
    cases groupOf b.toNat with
    | none => rfl
    | some g => exact congrArg (fun q => (s.withLink f r o, Response.okWith q)) (State.groupReport_withLink f r o s g)
  case configRing base n => exact linked_ite f r o rfl (linked_ite f r o rfl (linked_ite f r o rfl rfl))
  case ringOff =>
    show ringOffAct (s.withLink f r o) = linked f r o (ringOffAct s)
    have hposting : (s.withLink f r o).posting = s.posting := rfl
    unfold ringOffAct
    rw [hposting]
    cases s.posting <;> rfl
  case ringPoll =>
    show ringPollAct (s.withLink f r o) = linked f r o (ringPollAct s)
    have hring : (s.withLink f r o).ringState = s.ringState := rfl
    unfold ringPollAct
    rw [hring]
    cases s.ringState <;> rfl
  case setTick n => exact linked_ite f r o rfl rfl
  all_goals rfl

end

/-- The command in its frame leaves what the command alone leaves. -/
theorem exec_inFrame (hc : managementCommand c = some (code, payload)) (hbit : enableBitFits c) (received : List Byte)
    (hd : s.delivers code payload = true) (hframe : (s.inFrame received).delivers code payload = true) :
    exec c (s.inFrame received) = exec c s := by
  rw [exec_delivered hc hbit hd, exec_delivered hc hbit hframe,
    show s.inFrame received = s.withLink .opened received (s.shiftedOut received.length) from rfl, managementAct_withLink]
  rfl

/-- Settles O41: the layouts field by field; the frame is examined to its command, which acts alike with and without it. -/
theorem commandFrameDeliversItsCommand : Obligations.CommandFrameDeliversItsCommand := by
  refine ⟨fun n x => ⟨length_leBytes n x, fieldAt_leBytes n x⟩, fields_loadBytes, fields_tuneBytes, fields_freshBytes,
    fields_groupBytes, fun code payload => rfl, fun c code payload pad s hc hbit hreset hidle => ?_⟩
  have hlength := commandLength_management hc
  have hframe : examineFrame (commandFrame code payload ++ pad) = .command code payload :=
    examineFrame_eq_command.mpr ⟨hlength, pad, by simp [commandFrame]⟩
  have hd : s.delivers code payload = true := State.delivers_iff.mpr ⟨hreset, .inl hidle⟩
  refine ⟨hlength, hframe, _, exec_delivered hc hbit hd, ?_⟩
  have hexec := (exec_inFrame hc hbit _ hd (State.delivers_inFrame hreset hframe)).trans (exec_delivered hc hbit hd)
  rw [runAll_frame hreset, runAll_cons_of_next hexec, runAll_nil]

end Sys2Proof.Machine
end
